-- ==== Sys2Proof/Word.lean ====
section
/-! DEFINITION. The words of the VH432: bytes, sensor IDs, frame numbers and the bit sets the manual numbers. -/

namespace Sys2Proof

/-- A byte of the control port, the beacon or a telegram (R151, R174, R175). -/
abbrev Byte := BitVec 8

/-- The 32-bit identity of a wheel sensor (spec/00, terms). -/
abbrev SensorId := BitVec 32

/-- A frame number: a 32-bit count that wraps (spec/00, frame arithmetic; R19). -/
abbrev FrameNo := BitVec 32

/-- 32 flags, one per wheel slot or position; flag `p` is bit `p` (R28, R175). -/
abbrev SlotMap := BitVec 32

/-- A kind set: bit `k - 1` stands for the kind with kind order `k` (R102, R173). -/
abbrev KindSet := BitVec 10

/-- A condition set: bit `c - 1` stands for the condition with code `c` (R125, R173). -/
abbrev CondSet := BitVec 7

end Sys2Proof
end

