-- ==== Sys2Proof/Syntax.lean ====
section
/-! DEFINITION. The commands and events of `spec/opcode_table.json`, one constructor per row. -/

namespace Sys2Proof

/-- A radio receive channel (spec/00, terms). -/
inductive Channel where
  | a
  | b
  deriving DecidableEq, Repr

/-- The 47 rows of `spec/opcode_table.json`, in the table's order. Each is a stimulus that the part takes whole.
A host command carries the payload bytes of the good control frame that completes (R151, R176). -/
inductive Instr where
  | identify (payload : List Byte)
  | getStatus (payload : List Byte)
  | setMode (payload : List Byte)
  | restart (payload : List Byte)
  | setPort (payload : List Byte)
  | setAxle (payload : List Byte)
  | setLimits (payload : List Byte)
  | setClass (payload : List Byte)
  | setFilter (payload : List Byte)
  | setLink (payload : List Byte)
  | setMask (payload : List Byte)
  | setReadings (payload : List Byte)
  | ambient (payload : List Byte)
  | load (payload : List Byte)
  | sensorMode (payload : List Byte)
  | learn (payload : List Byte)
  | bind (payload : List Byte)
  | unbind (payload : List Byte)
  | cancel (payload : List Byte)
  | getCandidates (payload : List Byte)
  | getWheel (payload : List Byte)
  | getSummary (payload : List Byte)
  | ackAlarm (payload : List Byte)
  | clearConditions (payload : List Byte)
  | inject (payload : List Byte)
  /-- A good frame with the kind byte `kind` completes (R156). -/
  | unknownCommand (kind : Byte) (payload : List Byte)
  /-- A good frame completes while the reply buffer is occupied (R155). -/
  | hostOverrun (kind : Byte) (payload : List Byte)
  /-- A complete frame with the received check `check` (R154). -/
  | badCheckFrame (kind : Byte) (payload : List Byte) (check : BitVec 16)
  /-- The length byte `length` arrives in LENGTH (R152). -/
  | frameAbandoned (length : Byte)
  | byteGapExpiry
  | hostSilenceExpiry
  | frameEnd
  | modeChange
  | silenceCheck
  | offerExpiry
  | learnExpiry
  | ageOut
  | beaconSent
  /-- The carrier of `channel` is released after `burst`, in slot `slot` of the running frame (R22, R29). -/
  | radioArrival (channel : Channel) (slot : Nat) (burst : List Byte)
  | assessmentStart
  | reportCompletion
  | joinCompletion
  | messageBoundary
  | warmRestart
  | coldReset
  | resetRelease
  /-- A byte arrives on RXD (R152). -/
  | controlByteReceived (byte : Byte)
  deriving DecidableEq, Repr

end Sys2Proof
end

