-- ==== Sys2Proof/Decode.lean ====
section
/-! DEFINITION. The command a word spells by the bits of `spec/opcode_table.json`. -/

namespace Sys2Proof

/-- The table gives no row any bits, so no word spells a command. (A command's bytes on RXD are read by
`Machine.State.takeByte`, R152.) -/
def decodeTableWord (_nbits _w : Nat) : Option Instr := none

end Sys2Proof
end

