-- ==== Sys2Proof/Config.lean ====
section
/-! DEFINITION. The capacities of the part (spec/00, capacities at a glance) and the values the manual leaves open. -/

namespace Sys2Proof.Config

/-- Tyre places (R1). -/
def positions : Nat := 32

/-- Axles (R2). -/
def axles : Nat := 8

/-- Acceptance filters (R40). -/
def filters : Nat := 4

/-- Capacity of the candidate list (R47). -/
def candidates : Nat := 8

/-- Capacity of the re-offer list (R50). -/
def reoffers : Nat := 4

/-- Offer places of a beacon (R51). -/
def offerPlaces : Nat := 4

/-- Positions that may be LEARNING or OFFERED together (R56). -/
def pendingPlaces : Nat := 4

/-- Capacity of the receive queue (R64). -/
def queue : Nat := 6

/-- Capacity of the notice store (R137). -/
def notices : Nat := 8

/-- Capacity of a history window (R90). -/
def window : Nat := 8

/-- Sensors whose JOINs one join slot takes in a frame (R34). -/
def joinMarks : Nat := 4

/-- Beacons an offer is carried in (R52). -/
def offerBeacons : Nat := 6

/-- Frames a learn waits (R56). -/
def learnFrames : Nat := 150

/-- The age at which a candidate is removed (R49). -/
def candidateAge : Nat := 30

/-- The largest payload of a control frame (R151). -/
def maxPayload : Nat := 250

/-- Free value. R53 says that the join controller's work at a frame end is made alongside the position table's. Which of the
two queues its notices first is open (log entry 7). -/
opaque joinWorkFirst : Bool

end Sys2Proof.Config
end

