-- ==== Sys2Proof/Machine/Types.lean ====
section
/-! DEFINITION. The data the blocks of the VH432 hold, block by block, as the chapters name it. -/

namespace Sys2Proof.Machine

/-! ## Names (R102, R125, R165, R5, R158, R173) -/

/-- The four operating modes (R165). -/
inductive Mode where
  | config
  | run
  | park
  | test
  deriving DecidableEq, Repr

/-- The declared load state (R82). -/
inductive LoadState where
  | empty
  | laden
  | tipping
  deriving DecidableEq, Repr

/-- The seven position states (R5). -/
inductive PosState where
  | absent
  | vacant
  | learning
  | offered
  | assigned
  | active
  | missing
  deriving DecidableEq, Repr

/-- The ten alarm kinds in kind order (R102). -/
inductive Kind where
  | lowAlarm
  | hotAlarm
  | missing
  | lowWarn
  | hotWarn
  | leak
  | dualImbalance
  | highWarn
  | sensorFault
  | batteryLow
  deriving DecidableEq, Repr

/-- The seven conditions in the order of their codes (R125, R173). -/
inductive Condition where
  | invalidCode
  | clamped
  | rxOverrun
  | slotConflict
  | candidateOverrun
  | noticeLost
  | hostOverrun
  deriving DecidableEq, Repr

/-- The result of a reply (R157). -/
inductive ReplyResult where
  | done
  | clamped
  | refused
  deriving DecidableEq, Repr

/-- The fifteen reasons of a refusal, in the order of R158. -/
inductive Reason where
  | unknownCommand
  | badLength
  | wrongMode
  | badArgument
  | busy
  | notVacant
  | notBound
  | noCandidate
  | notPending
  | notConfigured
  | notAssigned
  | slotConflict
  | slotKind
  | duplicate
  | queueFull
  deriving DecidableEq, Repr

/-- The report type of an alarm kind (R103). -/
inductive ReportType where
  | level
  | edge
  deriving DecidableEq, Repr

/-- The event an ALARM notice tells of (R115). -/
inductive AlarmEvent where
  | raised
  | reRaised
  | cleared
  deriving DecidableEq, Repr

/-- The outcome a BIND notice tells of (R61). -/
inductive BindOutcome where
  | bound
  | failedTimeout
  | failedMode
  deriving DecidableEq, Repr

/-- The cause a MODE notice carries (R169). -/
inductive ModeCause where
  | command
  | coldReset
  | warmRestart
  deriving DecidableEq, Repr

/-- A value of the downlink word (R24, R26). The stored word never holds `park`. -/
inductive DownlinkValue where
  | normal
  | fast
  | slow
  | park
  deriving DecidableEq, Repr

/-- The two kinds of telegram (R174). -/
inductive TelegramKind where
  | report
  | join
  deriving DecidableEq, Repr

/-- The flags a sensor reports (R85). -/
structure SensorFlags where
  trigger : Bool
  fastLoss : Bool
  fault : Bool
  deriving DecidableEq, Repr

/-- A thing held for each of the ten alarm kinds. -/
structure PerKind (α : Type) where
  lowAlarm : α
  hotAlarm : α
  missing : α
  lowWarn : α
  hotWarn : α
  leak : α
  dualImbalance : α
  highWarn : α
  sensorFault : α
  batteryLow : α
  deriving DecidableEq, Repr

/-! ## Position table (R2, R5) -/

/-- One axle entry (R2). -/
structure Axle where
  present : Bool
  twin : Bool
  nominalEmpty : Nat
  nominalLaden : Nat
  deriving DecidableEq, Repr

/-- One dated cold gauge sample of a history window (R90). -/
structure Sample where
  frame : FrameNo
  cold : Nat
  deriving DecidableEq, Repr

/-- The last-assessment conditions of a record, and the conditions an assessment met (R86, R134). -/
structure AssessConditions where
  invalidCode : Bool
  clamped : Bool
  deriving DecidableEq, Repr

/-- The fields a sensor's reports fill in (R7). -/
structure WheelData where
  lastHeard : Option FrameNo
  lastChannel : Option Channel
  hotGauge : Option Nat
  coldGauge : Option Nat
  temperature : Option Int
  battery : Option (BitVec 3)
  flags : SensorFlags
  history : List Sample
  lossRate : Option Int
  lastConditions : AssessConditions
  deriving DecidableEq, Repr

/-- One entry of the candidate list (R47). -/
structure Candidate where
  id : SensorId
  channel : Channel
  firstHeard : FrameNo
  lastHeard : FrameNo
  pressureCode : BitVec 12
  temperatureCode : BitVec 8
  triggerSeen : Bool
  deriving DecidableEq, Repr

/-- The offer record of an OFFERED position (R9). -/
structure Offer where
  remaining : Nat
  candidate : Candidate
  deriving DecidableEq, Repr

/-- One alarm sub-record (R105). -/
structure SubRecord where
  active : Bool
  pending : Bool
  count : Nat
  deriving DecidableEq, Repr

/-- One position record (R5). The position index is its place in the table; `learn` is the learn record's frames
remaining. -/
structure Position where
  state : PosState
  sensorId : Option SensorId
  stateEntry : FrameNo
  wheel : WheelData
  offer : Option Offer
  learn : Option Nat
  alarms : PerKind SubRecord
  deriving DecidableEq, Repr

/-! ## Frame sequencer and link receiver (R19, R24, R28) -/

/-- The frame timer: stopped, or running with the effective period of the frame in hand, in seconds (R19, R20). -/
inductive FrameTimer where
  | stopped
  | running (period : Nat)
  deriving DecidableEq, Repr

/-- One offer of a beacon. `isOffer` tells the offer of an OFFERED position from a re-offer (R51, R52); it is not sent. -/
structure OfferEntry where
  slot : Nat
  id : SensorId
  isOffer : Bool
  deriving DecidableEq, Repr

/-- A beacon as it is built (R24). -/
structure Beacon where
  vehicleCode : BitVec 16
  frameLow : BitVec 16
  linkMode : Mode
  assignedMap : SlotMap
  ackMap : SlotMap
  joinOpen : Bool
  downlink : Option DownlinkValue
  offers : List OfferEntry
  deriving DecidableEq, Repr

/-- The frame sequencer (R19), with the beacon of the running frame and the transmit interface (R25). -/
structure Sequencer where
  frameNumber : FrameNo
  timer : FrameTimer
  period : Nat
  silenceLimit : Nat
  vehicleCode : BitVec 16
  downlink : Option DownlinkValue
  beacon : Option Beacon
  txKey : Bool
  txData : List Byte
  deriving DecidableEq, Repr

/-- The join marks: the IDs accepted in each of the four join slots of the running frame (R28). -/
structure JoinMarks where
  slot33 : List SensorId
  slot34 : List SensorId
  slot35 : List SensorId
  slot36 : List SensorId
  deriving DecidableEq, Repr

/-- The link receiver's maps and marks (R28). -/
structure LinkReceiver where
  heardMap : SlotMap
  wheelMarks : SlotMap
  joinMarks : JoinMarks
  ackMap : SlotMap
  deriving DecidableEq, Repr

/-- The fields of a telegram (R174). -/
structure Telegram where
  kind : TelegramKind
  id : SensorId
  pressureCode : BitVec 12
  temperatureCode : BitVec 8
  battery : BitVec 3
  flags : SensorFlags
  deriving DecidableEq, Repr

/-! ## Join controller (R40) -/

/-- One acceptance filter entry (R41). -/
structure AcceptFilter where
  code : BitVec 32
  mask : BitVec 32
  enable : Bool
  deriving DecidableEq, Repr

/-- The join controller (R40). -/
structure JoinController where
  filters : List AcceptFilter
  candidates : List Candidate
  reoffers : List SensorId
  deriving DecidableEq, Repr

/-- The model's own: how far the join controller's work of the running frame's end has been made, in the order of R55 (log
entry 5). It is `due` but between a frame-end row and the frame end itself. -/
inductive JoinWork where
  | due
  | agedOut
  | offersExpired
  | learnsCounted
  deriving DecidableEq, Repr

/-! ## Receive queue and assessment engine (R65, R67, R80) -/

/-- One receive queue entry: a telegram with the link receiver's stamps (R65). -/
structure QueueEntry where
  telegram : Telegram
  slot : Nat
  channel : Channel
  frame : FrameNo
  deriving DecidableEq, Repr

/-- The ten limits (R80). -/
structure Limits where
  tref : Nat
  lowWarnPct : Nat
  lowAlarmPct : Nat
  highWarnPct : Nat
  hysteresis : Nat
  hotWarn : Nat
  hotAlarm : Nat
  leak : Nat
  dual : Nat
  interval : Nat
  deriving DecidableEq, Repr

/-- What is captured of the twin partner (R69). -/
structure PartnerCapture where
  state : PosState
  coldGauge : Option Nat
  lastHeard : Option FrameNo
  deriving DecidableEq, Repr

/-- The inputs captured at the start of a REPORT assessment (R69), with the current frame number at the start (R98).
`partner` is present when the axle is twin. -/
structure Capture where
  load : LoadState
  ambient : Nat
  limits : Limits
  period : Nat
  silenceLimit : Nat
  axle : Axle
  history : List Sample
  partner : Option PartnerCapture
  startFrame : FrameNo
  deriving DecidableEq, Repr

/-- An assessment in flight: the entry, its captured values (none for a JOIN: R69) and the two marks (R67). -/
structure InFlight where
  entry : QueueEntry
  capture : Option Capture
  voidMark : Bool
  historyMark : Bool
  deriving DecidableEq, Repr

/-- The assessment engine (R67). -/
inductive Engine where
  | idle
  | busy (work : InFlight)
  deriving DecidableEq, Repr

/-- The assessment engine's configuration (R80). -/
structure ArithConfig where
  ambient : Nat
  limits : Limits
  deriving DecidableEq, Repr

/-! ## Alarm unit and condition set (R103, R125) -/

/-- One entry of the kind settings table (R103). The confirm count is absent for MISSING. -/
structure KindSetting where
  cls : Fin 3
  type : ReportType
  confirm : Option Nat
  deriving DecidableEq, Repr

/-- The condition set: the conditions set and the mask (R125, R127). -/
structure ConditionSet where
  set : CondSet
  mask : CondSet
  deriving DecidableEq, Repr

/-! ## Notice store (R137, R144, R145) -/

/-- A notice's kind and content (R138). -/
inductive Notice where
  | alarm (position : Nat) (kind : Kind) (event : AlarmEvent) (frame : FrameNo) (cold : Option Nat) (temperature : Option Int)
  | mode (mode : Mode) (cause : ModeCause)
  | bind (position : Nat) (id : Option SensorId) (outcome : BindOutcome)
  | condition (condition : Condition) (frame : FrameNo)
  | candidate (id : SensorId) (channel : Channel) (triggerSeen : Bool) (pressureCode : BitVec 12) (temperatureCode : BitVec 8)
  | reading (position : Nat) (hot cold : Option Nat) (temperature : Option Int) (battery : BitVec 3) (lossRate : Option Int)
      (frame : FrameNo)
  deriving DecidableEq, Repr

/-- The state of an entry of the notice store (R137). -/
inductive EntryState where
  | waiting
  | sending
  deriving DecidableEq, Repr

/-- One entry of the notice store. Its age is its place in the store: the oldest stands first (R137). -/
structure Entry where
  notice : Notice
  priority : Nat
  state : EntryState
  deriving DecidableEq, Repr

/-- What a command's owner answers (R157). -/
structure Answer where
  result : ReplyResult
  reason : Option Reason
  data : List Byte
  deriving DecidableEq, Repr

/-- A reply: the echoed kind and the owner's answer (R157). -/
structure Reply where
  echoed : Byte
  answer : Answer
  deriving DecidableEq, Repr

/-- The reply buffer (R144). It is occupied from the moment a command is taken (R155): `forming` while its owner works. -/
inductive ReplyBuffer where
  | empty
  | forming
  | holding (reply : Reply)
  deriving DecidableEq, Repr

/-- The transmitter of the control port (R145). -/
inductive Transmitter where
  | idle
  | sendingReply
  | sendingNotice
  deriving DecidableEq, Repr

/-- The notice store (R137), reply buffer (R144), transmitter (R145), the bytes on TXD, ATTN (R147) and the readings
setting (R140). -/
structure NoticeStore where
  entries : List Entry
  reply : ReplyBuffer
  transmitter : Transmitter
  txd : List Byte
  attn : Bool
  readings : Bool
  deriving DecidableEq, Repr

/-! ## Control port and mode controller (R150, R165) -/

/-- The receive framing state with the frame in assembly (R150, R152). -/
inductive Receiver where
  | hunt
  | length
  | kind (length : Byte)
  | payload (length kind : Byte) (got : List Byte)
  | checkHigh (length kind : Byte) (payload : List Byte)
  | checkLow (length kind : Byte) (payload : List Byte) (high : Byte)
  deriving DecidableEq, Repr

/-- The control port (R150). -/
structure ControlPort where
  receiver : Receiver
  gapTimer : Bool
  silenceLimit : Nat
  silenceTimer : Bool
  hostSilent : Bool
  deriving DecidableEq, Repr

/-- The mode controller (R165). -/
structure ModeController where
  mode : Mode
  pending : Option Mode
  load : LoadState
  deriving DecidableEq, Repr

end Sys2Proof.Machine
end

