-- ==== Sys2Proof/Machine/Flags.lean ====
section
/-! DEFINITION. Bit sets and per-kind tables: slot maps (R28), kind sets (R102), condition sets (R125), and the kinds' order. -/

namespace Sys2Proof.Machine

/-! ## Kinds (R102) -/

/-- The ten kinds in kind order (R102). -/
def Kind.all : List Kind :=
  [.lowAlarm, .hotAlarm, .missing, .lowWarn, .hotWarn, .leak, .dualImbalance, .highWarn, .sensorFault, .batteryLow]

/-- A kind's place in the kind order, from 0 (R102). -/
def Kind.index : Kind → Nat
  | .lowAlarm => 0
  | .hotAlarm => 1
  | .missing => 2
  | .lowWarn => 3
  | .hotWarn => 4
  | .leak => 5
  | .dualImbalance => 6
  | .highWarn => 7
  | .sensorFault => 8
  | .batteryLow => 9

/-- What a per-kind table holds for one kind. -/
def PerKind.get {α : Type} (t : PerKind α) : Kind → α
  | .lowAlarm => t.lowAlarm
  | .hotAlarm => t.hotAlarm
  | .missing => t.missing
  | .lowWarn => t.lowWarn
  | .hotWarn => t.hotWarn
  | .leak => t.leak
  | .dualImbalance => t.dualImbalance
  | .highWarn => t.highWarn
  | .sensorFault => t.sensorFault
  | .batteryLow => t.batteryLow

/-- A per-kind table with one kind's thing replaced. -/
def PerKind.put {α : Type} (t : PerKind α) (k : Kind) (a : α) : PerKind α :=
  match k with
  | .lowAlarm => { t with lowAlarm := a }
  | .hotAlarm => { t with hotAlarm := a }
  | .missing => { t with missing := a }
  | .lowWarn => { t with lowWarn := a }
  | .hotWarn => { t with hotWarn := a }
  | .leak => { t with leak := a }
  | .dualImbalance => { t with dualImbalance := a }
  | .highWarn => { t with highWarn := a }
  | .sensorFault => { t with sensorFault := a }
  | .batteryLow => { t with batteryLow := a }

/-- The table that holds the same thing for every kind. -/
def PerKind.const {α : Type} (a : α) : PerKind α := ⟨a, a, a, a, a, a, a, a, a, a⟩

/-! ## Kind sets (R102, R173) -/

/-- The kind stands in the set. -/
def kindIn (k : Kind) (ks : KindSet) : Bool := ks.getLsbD k.index

/-- The set of the kinds that meet a test. -/
def kindSetOf (f : Kind → Bool) : KindSet :=
  Kind.all.foldl (fun m k => if f k then m ||| (1#10 <<< k.index) else m) 0#10

/-! ## Condition sets (R125, R173) -/

/-- A condition's place in the order of the codes, from 0 (R173). -/
def Condition.index : Condition → Nat
  | .invalidCode => 0
  | .clamped => 1
  | .rxOverrun => 2
  | .slotConflict => 3
  | .candidateOverrun => 4
  | .noticeLost => 5
  | .hostOverrun => 6

/-- The condition stands in the set. -/
def condIn (c : Condition) (cs : CondSet) : Bool := cs.getLsbD c.index

/-- The set with the condition added. -/
def condAdd (c : Condition) (cs : CondSet) : CondSet := cs ||| (1#7 <<< c.index)

/-! ## Slot maps (R28, R175) -/

/-- Flag `p` of a map. -/
def flagIn (p : Nat) (m : SlotMap) : Bool := m.getLsbD p

/-- The map with flag `p` set. -/
def flagAdd (p : Nat) (m : SlotMap) : SlotMap := m ||| (1#32 <<< p)

/-- The map of the positions 0 to 31 that meet a test. -/
def mapOf (f : Nat → Bool) : SlotMap :=
  (List.range Config.positions).foldl (fun m p => if f p then flagAdd p m else m) 0#32

/-! ## Join marks (R28) -/

/-- The join marks of a join slot; a slot that is no join slot has none. -/
def JoinMarks.get (j : JoinMarks) (slot : Nat) : List SensorId :=
  if slot = 33 then j.slot33
  else if slot = 34 then j.slot34
  else if slot = 35 then j.slot35
  else if slot = 36 then j.slot36
  else []

/-- The join marks with an ID added to a join slot's set (R36 step 3). -/
def JoinMarks.add (j : JoinMarks) (slot : Nat) (id : SensorId) : JoinMarks :=
  if slot = 33 then { j with slot33 := j.slot33 ++ [id] }
  else if slot = 34 then { j with slot34 := j.slot34 ++ [id] }
  else if slot = 35 then { j with slot35 := j.slot35 ++ [id] }
  else if slot = 36 then { j with slot36 := j.slot36 ++ [id] }
  else j

/-- No join marks. -/
def JoinMarks.none : JoinMarks := ⟨[], [], [], []⟩

end Sys2Proof.Machine
end

