-- ==== Sys2Proof/Machine/Formats.lean ====
section
/-! DEFINITION. Every byte layout the part exposes (spec/11): field forms, checks, telegrams, the beacon, control frames,
notices. -/

namespace Sys2Proof.Machine

/-! ## Checks (R30, R154) -/

/-- One of the eight steps of CRC-8 (R30 step 3). -/
def crc8Step (r : BitVec 8) : BitVec 8 := if r.msb then (r <<< 1) ^^^ 0x2F#8 else r <<< 1

/-- CRC-8 over bytes (R30): the register starts at FFh, no final exclusive-or. -/
def crc8 (bytes : List Byte) : BitVec 8 :=
  bytes.foldl (fun (r : BitVec 8) (b : Byte) => Nat.repeat crc8Step 8 (r ^^^ b)) 0xFF#8

/-- One of the eight steps of the control frame's check (R154 step 3). -/
def crc16Step (r : BitVec 16) : BitVec 16 := if r.msb then (r <<< 1) ^^^ 0x1021#16 else r <<< 1

/-- The control frame's 16-bit check (R154): the register starts at FFFFh, no final exclusive-or. -/
def crc16 (bytes : List Byte) : BitVec 16 :=
  bytes.foldl (fun (r : BitVec 16) (b : Byte) => Nat.repeat crc16Step 8 (r ^^^ (BitVec.setWidth 16 b <<< 8))) 0xFFFF#16

/-! ## Field forms (R173) -/

/-- An unsigned integer in one byte. -/
def u8 (n : Nat) : Byte := BitVec.ofNat 8 n

/-- A 16-bit value, most significant byte first. -/
def bytes16 (x : BitVec 16) : List Byte := [(x >>> 8).setWidth 8, x.setWidth 8]

/-- A 32-bit value, most significant byte first. -/
def bytes32 (x : BitVec 32) : List Byte :=
  [(x >>> 24).setWidth 8, (x >>> 16).setWidth 8, (x >>> 8).setWidth 8, x.setWidth 8]

/-- An unsigned integer in two bytes. -/
def u16 (n : Nat) : List Byte := bytes16 (BitVec.ofNat 16 n)

/-- A signed integer in two bytes, two's complement. -/
def i16 (n : Int) : List Byte := bytes16 (BitVec.ofInt 16 n)

/-- Yes or no. -/
def yesNo (b : Bool) : Byte := if b then 0x01#8 else 0x00#8

/-- An optional numeric field: the presence byte, then the value, or zeros when absent. -/
def optField {α : Type} (width : Nat) (f : α → List Byte) : Option α → List Byte
  | some a => 0x01#8 :: f a
  | none => 0x00#8 :: List.replicate width 0x00#8

/-- The 16-bit value of two bytes, most significant first. -/
def read16 (hi lo : Byte) : BitVec 16 := hi ++ lo

/-- The 32-bit value of four bytes, most significant first. -/
def read32 (b3 b2 b1 b0 : Byte) : BitVec 32 := b3 ++ b2 ++ b1 ++ b0

/-! ## Enumeration codes (R173) -/

/-- The code of a mode. -/
def Mode.code : Mode → Byte
  | .config => 0x01#8
  | .run => 0x02#8
  | .park => 0x03#8
  | .test => 0x04#8

/-- The code of a load state. -/
def LoadState.code : LoadState → Byte
  | .empty => 0x01#8
  | .laden => 0x02#8
  | .tipping => 0x03#8

/-- The code of a position state. -/
def PosState.code : PosState → Byte
  | .absent => 0x01#8
  | .vacant => 0x02#8
  | .learning => 0x03#8
  | .offered => 0x04#8
  | .assigned => 0x05#8
  | .active => 0x06#8
  | .missing => 0x07#8

/-- The code of a channel. -/
def channelCode : Channel → Byte
  | .a => 0x01#8
  | .b => 0x02#8

/-- The code of an alarm kind: its place in the kind order, from 1. -/
def Kind.code (k : Kind) : Byte := u8 (k.index + 1)

/-- The code of a condition. -/
def Condition.code (c : Condition) : Byte := u8 (c.index + 1)

/-- The code of a result. -/
def ReplyResult.code : ReplyResult → Byte
  | .done => 0x01#8
  | .clamped => 0x02#8
  | .refused => 0x03#8

/-- The code of a reason, in the order of R158. -/
def Reason.code : Reason → Byte
  | .unknownCommand => 0x01#8
  | .badLength => 0x02#8
  | .wrongMode => 0x03#8
  | .badArgument => 0x04#8
  | .busy => 0x05#8
  | .notVacant => 0x06#8
  | .notBound => 0x07#8
  | .noCandidate => 0x08#8
  | .notPending => 0x09#8
  | .notConfigured => 0x0A#8
  | .notAssigned => 0x0B#8
  | .slotConflict => 0x0C#8
  | .slotKind => 0x0D#8
  | .duplicate => 0x0E#8
  | .queueFull => 0x0F#8

/-- The code of a report type. -/
def ReportType.code : ReportType → Byte
  | .level => 0x01#8
  | .edge => 0x02#8

/-- The code of an alarm event. -/
def AlarmEvent.code : AlarmEvent → Byte
  | .raised => 0x01#8
  | .reRaised => 0x02#8
  | .cleared => 0x03#8

/-- The code of a bind outcome. -/
def BindOutcome.code : BindOutcome → Byte
  | .bound => 0x01#8
  | .failedTimeout => 0x02#8
  | .failedMode => 0x03#8

/-- The code of a mode cause. -/
def ModeCause.code : ModeCause → Byte
  | .command => 0x01#8
  | .coldReset => 0x02#8
  | .warmRestart => 0x03#8

/-- The code of a downlink value in SENSOR_MODE. -/
def DownlinkValue.code : DownlinkValue → Byte
  | .normal => 0x01#8
  | .fast => 0x02#8
  | .slow => 0x03#8
  | .park => 0x04#8

/-- An optional enumeration: the code, or 00h for absent. -/
def optCode {α : Type} (f : α → Byte) : Option α → Byte
  | some a => f a
  | none => 0x00#8

/-! ## Sets and flags (R173, R174) -/

/-- A kind set in two bytes (R173). DESIGN CHOICE (log entry 17): the most significant byte stands first. -/
def kindSetBytes (ks : KindSet) : List Byte := bytes16 (ks.setWidth 16)

/-- A condition set in one byte. -/
def condSetByte (cs : CondSet) : Byte := cs.setWidth 8

/-- The sensor flags with the bits of telegram byte 8. -/
def SensorFlags.byte (f : SensorFlags) : Byte :=
  BitVec.ofNat 8 ((if f.trigger then 1 else 0) + (if f.fastLoss then 2 else 0) + (if f.fault then 4 else 0))

/-- The sensor flags a byte carries; bits 3 to 7 are ignored (R174, R176). -/
def SensorFlags.ofByte (b : Byte) : SensorFlags := ⟨b.getLsbD 0, b.getLsbD 1, b.getLsbD 2⟩

/-- The last-assessment conditions as a condition set (R178). -/
def AssessConditions.byte (c : AssessConditions) : Byte :=
  BitVec.ofNat 8 ((if c.invalidCode then 1 else 0) + (if c.clamped then 2 else 0))

/-! ## Telegrams and bursts (R30, R174, R175) -/

/-- The telegram kind a byte names (R173). -/
def telegramKindOf (b : Byte) : Option TelegramKind :=
  if b = 0x3C#8 then some .report else if b = 0x3D#8 then some .join else none

/-- The fields of a telegram's ten bytes (R174). Reserved bits are not read. -/
def telegramOf (kind : TelegramKind) : List Byte → Option Telegram
  | [_, i3, i2, i1, i0, p, m, t, f, _] =>
      some { kind := kind, id := read32 i3 i2 i1 i0, pressureCode := p ++ (m >>> 4).setWidth 4,
             temperatureCode := t, battery := m.setWidth 3, flags := SensorFlags.ofByte f }
  | _ => none

/-- What a burst that passes check 1 is (R30, R31). Of a beacon the vehicle code alone is read, and nothing follows from it
(R31, R175); its byte order is the one of `Beacon.body`. -/
inductive Burst where
  | telegram (t : Telegram)
  | beacon (vehicleCode : BitVec 16)
  deriving DecidableEq, Repr

/-- The last byte of a burst is CRC-8 over the bytes before it (R30). -/
def crc8Holds (burst : List Byte) : Bool := burst.getLast? == some (crc8 burst.dropLast)

/-- The length a beacon must have, from its byte 14 (R175). -/
def beaconLengthHolds (burst : List Byte) : Bool :=
  match burst[14]? with
  | some n => decide (n.toNat ≤ Config.offerPlaces) && burst.length == 16 + 5 * n.toNat
  | none => false

/-- Check 1, integrity: the burst's kind, its length and its check byte (R30, R174, R175). -/
def integrity (burst : List Byte) : Option Burst :=
  match burst with
  | [] => none
  | b :: rest =>
      match telegramKindOf b with
      | some k =>
          if burst.length = 10 ∧ crc8Holds burst then (telegramOf k burst).map .telegram else none
      | none =>
          if b = 0x5B#8 ∧ beaconLengthHolds burst ∧ crc8Holds burst then
            match rest with
            | hi :: lo :: _ => some (.beacon (read16 hi lo))
            | _ => none
          else none

/-- The bits of a downlink value in beacon byte 5 (R175). -/
def downlinkBits : DownlinkValue → Nat
  | .normal => 0
  | .fast => 1
  | .slow => 2
  | .park => 3

/-- The link mode bits of beacon byte 5 (R175). No beacon is built in CONFIG. -/
def linkModeBits : Mode → Nat
  | .config => 0
  | .run => 1
  | .park => 2
  | .test => 3

/-- Beacon byte 5 (R175). -/
def beaconByte5 (b : Beacon) : Byte :=
  BitVec.ofNat 8 (linkModeBits b.linkMode + (if b.joinOpen then 4 else 0) +
    (match b.downlink with
     | some v => 8 + 16 * downlinkBits v
     | none => 0))

/-- A beacon's bytes before its check byte (R175). DESIGN CHOICE (log entry 17): the vehicle code, the frame number and each
offer's sensor ID stand most significant byte first; R175 says so of the two maps alone. -/
def Beacon.body (b : Beacon) : List Byte :=
  [0x5B#8] ++ bytes16 b.vehicleCode ++ bytes16 b.frameLow ++ [beaconByte5 b] ++ bytes32 b.assignedMap ++
    bytes32 b.ackMap ++ [u8 b.offers.length] ++ (b.offers.map (fun o => u8 o.slot :: bytes32 o.id)).flatten

/-- A beacon's bytes (R175). -/
def Beacon.bytes (b : Beacon) : List Byte := b.body ++ [crc8 b.body]

/-! ## Control frames, replies and notices (R151, R177, R179) -/

/-- A control frame: sync, length, kind, payload, check (R151). -/
def controlFrame (kind : Byte) (payload : List Byte) : List Byte :=
  [0xA5#8, u8 payload.length, kind] ++ payload ++ bytes16 (crc16 (u8 payload.length :: kind :: payload))

/-- A reply's payload: echoed kind, result, reason, data (R177). -/
def Reply.payload (r : Reply) : List Byte :=
  [r.echoed, r.answer.result.code, optCode Reason.code r.answer.reason] ++ r.answer.data

/-- A reply's control frame (R151, R177). -/
def Reply.frame (r : Reply) : List Byte := controlFrame 0x80#8 r.payload

/-- A notice's kind byte (R151). -/
def Notice.kindByte : Notice → Byte
  | .alarm .. => 0x90#8
  | .bind .. => 0x91#8
  | .mode .. => 0x92#8
  | .condition .. => 0x93#8
  | .candidate .. => 0x94#8
  | .reading .. => 0x95#8

/-- A notice's payload (R179). -/
def Notice.payload : Notice → List Byte
  | .alarm p k e f c t => [u8 p, k.code, e.code] ++ bytes32 f ++ optField 2 u16 c ++ optField 2 i16 t
  | .bind p i o => [u8 p] ++ optField 4 bytes32 i ++ [o.code]
  | .mode m c => [m.code, c.code]
  | .condition c f => [c.code] ++ bytes32 f
  | .candidate i ch tr pc tc => bytes32 i ++ [channelCode ch, yesNo tr] ++ bytes16 (pc.setWidth 16) ++ [tc]
  | .reading p h c t b r f =>
      [u8 p] ++ optField 2 u16 h ++ optField 2 u16 c ++ optField 2 i16 t ++ [b.setWidth 8] ++ optField 2 i16 r ++ bytes32 f

/-- A notice's control frame (R151, R179). -/
def Notice.frame (n : Notice) : List Byte := controlFrame n.kindByte n.payload

end Sys2Proof.Machine
end

