-- ==== Sys2Proof/Machine/Operands.lean ====
section
/-! DEFINITION. The command catalogue (R156, R176) and every form in which a command's payload carries an operand (R173,
R176). -/

namespace Sys2Proof.Machine

/-! ## The catalogue (spec/09, 9.6; R176) -/

/-- The 25 commands of the catalogue. -/
inductive Command where
  | identify
  | getStatus
  | setMode
  | restart
  | setPort
  | setAxle
  | setLimits
  | setClass
  | setFilter
  | setLink
  | setMask
  | setReadings
  | ambient
  | load
  | sensorMode
  | learn
  | bind
  | unbind
  | cancel
  | getCandidates
  | getWheel
  | getSummary
  | ackAlarm
  | clearConditions
  | inject
  deriving DecidableEq, Repr

/-- The catalogue in the order of the codes. -/
def Command.all : List Command :=
  [.identify, .getStatus, .setMode, .restart, .setPort, .setAxle, .setLimits, .setClass, .setFilter, .setLink, .setMask,
   .setReadings, .ambient, .load, .sensorMode, .learn, .bind, .unbind, .cancel, .getCandidates, .getWheel, .getSummary,
   .ackAlarm, .clearConditions, .inject]

/-- A command's code, its frame's kind byte (R151, R176). -/
def Command.code : Command → Byte
  | .identify => 0x01#8
  | .getStatus => 0x02#8
  | .setMode => 0x03#8
  | .restart => 0x04#8
  | .setPort => 0x05#8
  | .setAxle => 0x10#8
  | .setLimits => 0x11#8
  | .setClass => 0x12#8
  | .setFilter => 0x13#8
  | .setLink => 0x14#8
  | .setMask => 0x15#8
  | .setReadings => 0x16#8
  | .ambient => 0x20#8
  | .load => 0x21#8
  | .sensorMode => 0x22#8
  | .learn => 0x30#8
  | .bind => 0x31#8
  | .unbind => 0x32#8
  | .cancel => 0x33#8
  | .getCandidates => 0x34#8
  | .getWheel => 0x40#8
  | .getSummary => 0x41#8
  | .ackAlarm => 0x42#8
  | .clearConditions => 0x43#8
  | .inject => 0x50#8

/-- The command a kind byte names, if it is in the catalogue (R156 check 1). -/
def Command.ofKind (kind : Byte) : Option Command := Command.all.find? (fun c => c.code == kind)

/-- The payload length of a command (R176). -/
def Command.payloadLength : Command → Nat
  | .identify => 0
  | .getStatus => 0
  | .setMode => 1
  | .restart => 0
  | .setPort => 1
  | .setAxle => 7
  | .setLimits => 11
  | .setClass => 4
  | .setFilter => 10
  | .setLink => 4
  | .setMask => 1
  | .setReadings => 1
  | .ambient => 1
  | .load => 1
  | .sensorMode => 1
  | .learn => 1
  | .bind => 5
  | .unbind => 1
  | .cancel => 1
  | .getCandidates => 0
  | .getWheel => 1
  | .getSummary => 0
  | .ackAlarm => 3
  | .clearConditions => 1
  | .inject => 12

/-- A command is accepted in a mode (R156 check 3). -/
def Command.acceptedIn (c : Command) (m : Mode) : Bool :=
  match c with
  | .setAxle | .setLimits | .setClass | .setFilter | .setLink => m == .config
  | .learn | .bind | .cancel => m == .run || m == .test
  | .inject => m == .test
  | _ => true

/-! ## Operand forms (R173, R176): `none` where the byte names nothing -/

/-- A yes/no byte. -/
def yesNoOf (b : Byte) : Option Bool := if b = 0x00#8 then some false else if b = 0x01#8 then some true else none

/-- A mode byte. -/
def modeOf (b : Byte) : Option Mode := [Mode.config, .run, .park, .test].find? (fun m => m.code == b)

/-- A load state byte. -/
def loadOf (b : Byte) : Option LoadState := [LoadState.empty, .laden, .tipping].find? (fun m => m.code == b)

/-- A downlink value byte of SENSOR_MODE: NORMAL, FAST or SLOW; PARK is refused (R27, R176). -/
def downlinkOf (b : Byte) : Option DownlinkValue := [DownlinkValue.normal, .fast, .slow].find? (fun m => m.code == b)

/-- A channel byte. -/
def channelOf (b : Byte) : Option Channel := [Channel.a, .b].find? (fun m => channelCode m == b)

/-- An alarm kind byte. -/
def kindOf (b : Byte) : Option Kind := Kind.all.find? (fun k => k.code == b)

/-- A report type byte. -/
def reportTypeOf (b : Byte) : Option ReportType := [ReportType.level, .edge].find? (fun m => m.code == b)

/-- A class byte (R104 check 2). -/
def classOf (b : Byte) : Option (Fin 3) :=
  if h : b.toNat < 3 then some ⟨b.toNat, h⟩ else none

/-- A condition set byte; bit 7 names nothing (R176). -/
def condSetOf (b : Byte) : Option CondSet := if b.getLsbD 7 then none else some (b.setWidth 7)

/-- A kind set field; bits 10 to 15 name nothing (R176). DESIGN CHOICE (log entry 17): the most significant byte stands
first. -/
def kindSetField (hi lo : Byte) : Option KindSet :=
  if (read16 hi lo).toNat < 1024 then some ((read16 hi lo).setWidth 10) else none

/-- A position index byte, 0 to 31. -/
def indexOf (b : Byte) : Option Nat := if b.toNat < Config.positions then some b.toNat else none

/-- The target of ACK_ALARM: a position index, or ALL (R116). -/
inductive AckTarget where
  | position (p : Nat)
  | all
  deriving DecidableEq, Repr

/-- A target byte: 00h to 1Fh, or FFh for ALL (R176). -/
def targetOf (b : Byte) : Option AckTarget := if b = 0xFF#8 then some .all else (indexOf b).map .position

/-- A value clamped to a range (spec/00, numbers and arithmetic). -/
def clampNat (lo hi n : Nat) : Nat := if n < lo then lo else if hi < n then hi else n

/-- An integer clamped to a range (spec/00, numbers and arithmetic). -/
def clampInt (lo hi n : Int) : Int := if n < lo then lo else if hi < n then hi else n

end Sys2Proof.Machine
end

