-- ==== Sys2Proof/Machine/State.lean ====
section
/-! DEFINITION. The state of the VH432, the reasons a step can stop, and the state after reset. -/

namespace Sys2Proof.Machine

/-- The whole part, block by block (spec/00, table of blocks), and the queue of events that are waiting. -/
structure State where
  /-- The RESET pin is held low (R171). -/
  resetLow : Bool
  /-- Frame sequencer (R19) and transmit interface (R25). -/
  seq : Sequencer
  /-- Link receiver (R28). -/
  link : LinkReceiver
  /-- Join controller (R40). -/
  join : JoinController
  /-- Axle plan (R2): axle `a` is entry `a - 1`. -/
  axles : List Axle
  /-- Position records (R5): position `p` is entry `p`. -/
  positions : List Position
  /-- Receive queue, the oldest at the head (R64). -/
  queue : List QueueEntry
  /-- Assessment engine (R67). -/
  engine : Engine
  /-- The arithmetic's configuration (R80). -/
  config : ArithConfig
  /-- Kind settings table (R103). -/
  kinds : PerKind KindSetting
  /-- The LAMP line (R123). -/
  lamp : Bool
  /-- Condition set (R125). -/
  conds : ConditionSet
  /-- Notice store, reply buffer, transmitter and ATTN (R137, R144, R145, R147). -/
  store : NoticeStore
  /-- Control port (R150). -/
  port : ControlPort
  /-- Mode controller (R165). -/
  modes : ModeController
  /-- The model's own: how far the join controller's work of this frame's end has been made (R55; log entry 5). -/
  joinWork : JoinWork
  /-- The model's own: the events that are waiting, the next one at the front (log entry 2). -/
  pending : List Instr
  deriving DecidableEq, Repr

/-- The manual names no event that stops the part, so no step ends in a fault and there is no reason to name. -/
inductive Fault where
  deriving DecidableEq, Repr

/-- Why a step has no meaning. -/
inductive Refusal where
  /-- Raised by an arm of `exec` whose command has no meaning yet; safe. No arm of this model raises it. -/
  | notModelled (mnemonic : String)
  deriving DecidableEq, Repr

/-! ## Cold-reset values -/

/-- No sensor flag set. -/
def SensorFlags.none : SensorFlags := ⟨false, false, false⟩

/-- No last-assessment condition. -/
def AssessConditions.none : AssessConditions := ⟨false, false⟩

/-- Cleared wheel data (R7). -/
def WheelData.cleared : WheelData :=
  { lastHeard := .none, lastChannel := .none, hotGauge := .none, coldGauge := .none, temperature := .none, battery := .none,
    flags := SensorFlags.none, history := [], lossRate := .none, lastConditions := AssessConditions.none }

/-- A clear sub-record: inactive, not pending, disagree count 0 (R105). -/
def SubRecord.clear : SubRecord := ⟨false, false, 0⟩

/-- Ten clear sub-records. -/
def clearAlarms : PerKind SubRecord := PerKind.const SubRecord.clear

/-- A record after a cold reset (R16). -/
def Position.cold : Position :=
  { state := .absent, sensorId := none, stateEntry := 0#32, wheel := WheelData.cleared, offer := none, learn := none,
    alarms := clearAlarms }

/-- An axle entry after a cold reset (R2). -/
def Axle.cold : Axle := ⟨false, false, 600, 600⟩

/-- A filter entry after a cold reset (R40). -/
def AcceptFilter.cold : AcceptFilter := ⟨0#32, 0#32, false⟩

/-- The limits after a cold reset (R80). -/
def Limits.cold : Limits :=
  { tref := 20, lowWarnPct := 10, lowAlarmPct := 20, highWarnPct := 15, hysteresis := 10, hotWarn := 85, hotAlarm := 100,
    leak := 25, dual := 70, interval := 60 }

/-- The kind settings after a cold reset (R103). -/
def coldKinds : PerKind KindSetting :=
  { lowAlarm := ⟨2, .level, some 2⟩
    hotAlarm := ⟨2, .level, some 1⟩
    missing := ⟨2, .level, none⟩
    lowWarn := ⟨1, .level, some 2⟩
    hotWarn := ⟨1, .edge, some 2⟩
    leak := ⟨1, .edge, some 2⟩
    dualImbalance := ⟨1, .edge, some 2⟩
    highWarn := ⟨1, .edge, some 3⟩
    sensorFault := ⟨1, .edge, some 1⟩
    batteryLow := ⟨1, .edge, some 1⟩ }

/-- The frame sequencer after a cold reset (R19, R171). -/
def Sequencer.cold : Sequencer :=
  { frameNumber := 0#32, timer := .stopped, period := 4, silenceLimit := 10, vehicleCode := 0x0000#16, downlink := none,
    beacon := none, txKey := false, txData := [] }

/-- The link receiver with all four maps and marks empty (R28). -/
def LinkReceiver.clear : LinkReceiver :=
  { heardMap := 0#32, wheelMarks := 0#32, joinMarks := JoinMarks.none, ackMap := 0#32 }

/-- The condition set after a cold reset: none set, CLAMPED masked (R127, R135). -/
def ConditionSet.cold : ConditionSet := ⟨0#7, condAdd .clamped 0#7⟩

/-- The control port after a cold reset (R150). -/
def ControlPort.cold : ControlPort :=
  { receiver := .hunt, gapTimer := false, silenceLimit := 0, silenceTimer := false, hostSilent := false }

/-- The notice a cold reset queues (R149, R169). -/
def coldResetNotice : Notice := .mode .config .coldReset

/-- The notice store in a cold reset: the MODE notice WAITING, the transmitter idle, ATTN asserted (R149). -/
def NoticeStore.cold : NoticeStore :=
  { entries := [⟨coldResetNotice, 1, .waiting⟩], reply := .empty, transmitter := .idle, txd := [], attn := true,
    readings := false }

/-- The part while RESET is held low (R171). -/
def State.coldReset : State :=
  { resetLow := true
    seq := Sequencer.cold
    link := LinkReceiver.clear
    join := { filters := List.replicate Config.filters AcceptFilter.cold, candidates := [], reoffers := [] }
    axles := List.replicate Config.axles Axle.cold
    positions := List.replicate Config.positions Position.cold
    queue := []
    engine := .idle
    config := ⟨101, Limits.cold⟩
    kinds := coldKinds
    lamp := true
    conds := ConditionSet.cold
    store := NoticeStore.cold
    port := ControlPort.cold
    modes := ⟨.config, none, .empty⟩
    joinWork := .due
    pending := [] }

/-- The machine right after reset: RESET has been released, and the transmitter has chosen the MODE notice at once (R171,
R145; log entry 1). -/
def State.reset : State :=
  { State.coldReset with
    resetLow := false
    store := { NoticeStore.cold with entries := [⟨coldResetNotice, 1, .sending⟩], transmitter := .sendingNotice
                                     txd := coldResetNotice.frame } }

end Sys2Proof.Machine
end

