-- ==== Sys2Proof/Machine/Ops.lean ====
section
/-! DEFINITION. The named operations the meanings share: the position table, the LAMP line, the notice store, the condition
set, the answers. -/

namespace Sys2Proof.Machine

/-! ## Positions (R1, R2, R5) -/

/-- The record of position `p` (R5). -/
def State.pos (s : State) (p : Nat) : Position := s.positions.getD p Position.cold

/-- The state with the record of position `p` replaced. -/
def State.setPos (s : State) (p : Nat) (r : Position) : State := { s with positions := s.positions.set p r }

/-- The axle entry of position `p` (R1, R2). -/
def State.axleOf (s : State) (p : Nat) : Axle := s.axles.getD (p / 4) Axle.cold

/-- A position is fitted by an axle entry: present, and twin for an IN place (R1). -/
def fittedBy (a : Axle) (p : Nat) : Bool := a.present && (p % 2 == 0 || a.twin)

/-- Position `p` is fitted (R1). -/
def State.fitted (s : State) (p : Nat) : Bool := fittedBy (s.axleOf p) p

/-- The twin partner of a position (R1). -/
def partnerOf (p : Nat) : Nat := if p % 2 = 0 then p + 1 else p - 1

/-- ASSIGNED, ACTIVE or MISSING: a bound position (spec/00, terms). -/
def PosState.bound : PosState → Bool
  | .assigned | .active | .missing => true
  | _ => false

/-- OFFERED, ASSIGNED, ACTIVE or MISSING: the states with a sensor ID (R6), carried in the assigned map (R24). -/
def PosState.hasId : PosState → Bool
  | .offered | .assigned | .active | .missing => true
  | _ => false

/-- LEARNING or OFFERED: a pending binding (R56). -/
def PosState.pendingBind : PosState → Bool
  | .learning | .offered => true
  | _ => false

/-- The thirty-two position indices. -/
def allPositions : List Nat := List.range Config.positions

/-- How many positions meet a test on their state. -/
def State.countPositions (s : State) (f : PosState → Bool) : Nat :=
  (s.positions.filter (fun r => f r.state)).length

/-- The age of a frame number at a later one, modulo 2^32 (spec/00, frame arithmetic). -/
def age (now then_ : FrameNo) : Nat := (now - then_).toNat

/-- A position holds a sensor ID in a state that meets a test. -/
def Position.holds (r : Position) (f : PosState → Bool) (id : SensorId) : Bool := f r.state && r.sensorId == some id

/-! ## LAMP (R123) -/

/-- A record holds an active or pending kind of class 2. -/
def Position.lights (kinds : PerKind KindSetting) (r : Position) : Bool :=
  Kind.all.any (fun k => (kinds.get k).cls == 2 && ((r.alarms.get k).active || (r.alarms.get k).pending))

/-- The rule of R123. -/
def State.lampRule (s : State) : Bool :=
  s.modes.mode == .config || s.modes.mode == .test || s.port.hostSilent || s.positions.any (Position.lights s.kinds)

/-- The alarm unit judges LAMP afresh (R123). -/
def State.judgeLamp (s : State) : State := { s with lamp := s.lampRule }

/-! ## Notice store (R137 to R147) -/

/-- The store with these entries; ATTN follows (R147). -/
def NoticeStore.withEntries (st : NoticeStore) (es : List Entry) : NoticeStore :=
  { st with entries := es, attn := !es.isEmpty }

/-- The entry is WAITING. -/
def Entry.waits (e : Entry) : Bool := e.state == .waiting

/-- The WAITING entry to send next: the lowest priority number, among equals the oldest (R145 step 2). -/
def nextWaiting : List Entry → Option Entry
  | [] => none
  | e :: es =>
      if e.waits then
        match nextWaiting es with
        | some f => if f.priority < e.priority then some f else some e
        | none => some e
      else nextWaiting es

/-- The entries with the oldest WAITING one of a priority number made SENDING (R145 step 2). -/
def markSending (priority : Nat) : List Entry → List Entry
  | [] => []
  | e :: es => if e.waits && e.priority == priority then { e with state := .sending } :: es else e :: markSending priority es

/-- The transmitter chooses the next message (R145 steps 1 to 3). -/
def NoticeStore.choose (st : NoticeStore) : NoticeStore :=
  match st.reply with
  | .holding r => { st with transmitter := .sendingReply, txd := r.frame }
  | _ =>
      match nextWaiting st.entries with
      | some e =>
          { st with entries := markSending e.priority st.entries, transmitter := .sendingNotice, txd := e.notice.frame }
      | none => { st with transmitter := .idle, txd := [] }

/-- A notice that enters while the transmitter is idle and the reply buffer empty is chosen at once (R141). -/
def NoticeStore.chooseIfIdle (st : NoticeStore) : NoticeStore :=
  if st.transmitter = .idle ∧ st.reply = .empty then st.choose else st

/-- A notice enters as the youngest entry (R141 step 2). -/
def NoticeStore.enter (st : NoticeStore) (n : Notice) (priority : Nat) : NoticeStore :=
  (st.withEntries (st.entries ++ [⟨n, priority, .waiting⟩])).chooseIfIdle

/-- A new notice replaces this entry: a WAITING READING notice for the same position (R139). -/
def Notice.replaces (n : Notice) (e : Entry) : Bool :=
  match n, e.notice with
  | .reading p .., .reading q .. => e.waits && p == q
  | _, _ => false

/-- The largest priority number of a WAITING entry, 0 when none waits (R142). -/
def worstWaiting (es : List Entry) : Nat := (es.filter Entry.waits).foldl (fun m e => max m e.priority) 0

/-- The entries without the youngest WAITING one of a priority number (R142). -/
def removeYoungest (priority : Nat) (es : List Entry) : List Entry :=
  (es.reverse.eraseP (fun e => e.waits && e.priority == priority)).reverse

/-- A block queues a notice: what the store then holds, and whether a notice was lost (R139, R141, R142). -/
def NoticeStore.take (st : NoticeStore) (n : Notice) (priority : Nat) : NoticeStore × Bool :=
  let es := st.entries.filter (fun e => !n.replaces e)
  if es.length < Config.notices then ((st.withEntries es).enter n priority, false)
  else if priority < worstWaiting es then ((st.withEntries (removeYoungest (worstWaiting es) es)).enter n priority, true)
  else (st.withEntries es, true)

/-- The store without the WAITING entries that match, and how many they were (R143). -/
def NoticeStore.withdraw (st : NoticeStore) (f : Notice → Bool) : NoticeStore × Nat :=
  let es := st.entries.filter (fun e => !(e.waits && f e.notice))
  (st.withEntries es, st.entries.length - es.length)

/-- An ALARM or READING notice for position `p` (R12). -/
def Notice.alarmOrReadingFor (p : Nat) : Notice → Bool
  | .alarm q .. => q == p
  | .reading q .. => q == p
  | _ => false

/-- An ALARM or READING notice (R143). -/
def Notice.alarmOrReading : Notice → Bool
  | .alarm .. => true
  | .reading .. => true
  | _ => false

/-- An ALARM notice for a position and kind (R117). -/
def Notice.alarmFor (p : Nat) (k : Kind) : Notice → Bool
  | .alarm q j .. => q == p && j == k
  | _ => false

/-- An ALARM notice for a position and kind with event RAISED or RE_RAISED (R114). -/
def Notice.raiseFor (p : Nat) (k : Kind) : Notice → Bool
  | .alarm q j e .. => q == p && j == k && !(e == .cleared)
  | _ => false

/-- A withdrawal that a block asks for (R143). -/
def State.withdraw (s : State) (f : Notice → Bool) : State := { s with store := (s.store.withdraw f).1 }

/-! ## Condition set (R128 to R130) -/

/-- The store raises NOTICE_LOST (R130): its CONDITION notice is taken only into a free entry. -/
def State.raiseNoticeLost (s : State) : State :=
  if condIn .noticeLost s.conds.set then s
  else
    { s with
      conds := { s.conds with set := condAdd .noticeLost s.conds.set }
      store :=
        if condIn .noticeLost s.conds.mask then s.store
        else if s.store.entries.length < Config.notices then s.store.enter (.condition .noticeLost s.seq.frameNumber) 4
        else s.store }

/-- A block queues a notice (R141); a loss raises NOTICE_LOST after it (R142). -/
def State.queueNotice (s : State) (n : Notice) (priority : Nat) : State :=
  if (s.store.take n priority).2 then State.raiseNoticeLost { s with store := (s.store.take n priority).1 }
  else { s with store := (s.store.take n priority).1 }

/-- A block raises a condition (R128); its CONDITION notice carries the current frame number (R129). -/
def State.raise (s : State) (c : Condition) : State :=
  if condIn c s.conds.set then s
  else
    let marked : State := { s with conds := { s.conds with set := condAdd c s.conds.set } }
    if condIn c s.conds.mask then marked else marked.queueNotice (.condition c s.seq.frameNumber) 4

/-! ## Entering VACANT or ABSENT (R12, R76) -/

/-- The engine's void mark is set when its REPORT in flight is for position `p` (R76). -/
def Engine.voidFor (e : Engine) (p : Nat) : Engine :=
  match e with
  | .busy w =>
      if w.entry.telegram.kind = .report ∧ w.entry.slot = p + 1 then .busy { w with voidMark := true } else .busy w
  | .idle => .idle

/-- The record of a position that has entered VACANT or ABSENT in a frame (R10, R12). -/
def Position.emptied (state : PosState) (frame : FrameNo) : Position :=
  { Position.cold with state := state, stateEntry := frame }

/-- A position enters VACANT or ABSENT, whatever the cause (R12, R7, R76, R119). -/
def State.enterEmpty (s : State) (p : Nat) (state : PosState) : State :=
  let cleared := s.setPos p (Position.emptied state s.seq.frameNumber)
  State.judgeLamp { cleared.withdraw (Notice.alarmOrReadingFor p) with engine := s.engine.voidFor p }

/-! ## Answers and replies (R144, R155, R157) -/

/-- The command was carried out as given. -/
def Answer.done (data : List Byte) : Answer := ⟨.done, none, data⟩

/-- The command was carried out, with a value clamped when `c` holds. -/
def Answer.doneOrClamped (c : Bool) (data : List Byte) : Answer := ⟨if c then .clamped else .done, none, data⟩

/-- The command was refused for a reason. -/
def Answer.refused (reason : Reason) (data : List Byte := []) : Answer := ⟨.refused, some reason, data⟩

/-- A reply enters the reply buffer; it is sent at once when the transmitter is idle (R144). -/
def State.reply (s : State) (kind : Byte) (a : Answer) : State :=
  let held : NoticeStore := { s.store with reply := .holding ⟨kind, a⟩ }
  { s with store := if held.transmitter = .idle then held.choose else held }

/-- The reply is the one to an accepted RESTART, whose end is the warm restart (R170). -/
def Reply.restarts (r : Reply) : Bool := r.echoed == Command.restart.code && r.answer.result == .done

end Sys2Proof.Machine
end

