-- ==== Sys2Proof/Machine/Port.lean ====
section
/-! DEFINITION. The control port's shared operations: the host-silence watch, taking a command, the common checks (R155,
R156, R159, R160). -/

namespace Sys2Proof.Machine

/-- What an owning block does with a command that passed the common checks: its effect and its answer (R156, R157). -/
abbrev Owner := List Byte → State → State × Answer

/-- The host-silence watch runs in RUN and PARK when the limit is not 0 (R159). -/
def watchRuns (m : Mode) (limit : Nat) : Bool := (m == .run || m == .park) && limit != 0

/-- A good frame completes: the receiver is in HUNT with the byte-gap timer stopped (R152), the host-silence timer restarts
if the watch runs, HOST_SILENT is cleared and LAMP judged again (R155, R160). -/
def State.goodFrame (s : State) : State :=
  State.judgeLamp
    { s with port := { s.port with receiver := .hunt, gapTimer := false, hostSilent := false
                                   silenceTimer := watchRuns s.modes.mode s.port.silenceLimit } }

/-- The answer of a command by the common checks, the owner's included when they pass (R156). -/
def commonChecks (c : Command) (owner : Owner) (payload : List Byte) (s : State) : State × Answer :=
  if payload.length ≠ c.payloadLength then (s, Answer.refused .badLength)
  else if c.acceptedIn s.modes.mode then owner payload s
  else (s, Answer.refused .wrongMode)

/-- A good frame's command is taken when the reply buffer is empty; otherwise the frame is discarded and HOST_OVERRUN
raised (R155). `work` carries the command out. -/
def State.takeFrame (s : State) (kind : Byte) (work : State → State × Answer) : State :=
  let good := s.goodFrame
  if good.store.reply = .empty then
    let taken := work { good with store := { good.store with reply := .forming } }
    taken.1.reply kind taken.2
  else good.raise .hostOverrun

/-- A good frame of a command's kind completes (R155, R156). While RESET is low its bytes are lost (R171). -/
def State.commandFrame (s : State) (c : Command) (owner : Owner) (payload : List Byte) : State :=
  if s.resetLow then s else s.takeFrame c.code (commonChecks c owner payload)

/-- A good frame of a kind that is not in the catalogue completes (R156 check 1). -/
def State.unknownFrame (s : State) (kind : Byte) : State :=
  if s.resetLow then s else s.takeFrame kind (fun t => (t, Answer.refused .unknownCommand))

end Sys2Proof.Machine
end

