-- ==== Sys2Proof/Machine/Conditions.lean ====
section
/-! DEFINITION. The commands on the condition set (spec/07): SET_MASK and CLEAR_CONDITIONS. Raising is in Ops. -/

namespace Sys2Proof.Machine

/-- SET_MASK's owner (R131). -/
def ownSetMask : Owner := fun payload s =>
  match payload with
  | [b] =>
      match condSetOf b with
      | some m => ({ s with conds := { s.conds with mask := m } }, Answer.done [condSetByte m])
      | none => (s, Answer.refused .badArgument)
  | _ => (s, Answer.refused .badLength)

/-- SET_MASK (R131). -/
def execSetMask (payload : List Byte) (s : State) : Host.Outcome State Fault Refusal :=
  .next (s.commandFrame .setMask ownSetMask payload)

/-- CLEAR_CONDITIONS's owner (R132). -/
def ownClearConditions : Owner := fun payload s =>
  match payload with
  | [b] =>
      match condSetOf b with
      | some m =>
          let after := s.conds.set &&& ~~~m
          ({ s with conds := { s.conds with set := after } }, Answer.done [condSetByte s.conds.set, condSetByte after])
      | none => (s, Answer.refused .badArgument)
  | _ => (s, Answer.refused .badLength)

/-- CLEAR_CONDITIONS (R132). -/
def execClearConditions (payload : List Byte) (s : State) : Host.Outcome State Fault Refusal :=
  .next (s.commandFrame .clearConditions ownClearConditions payload)

end Sys2Proof.Machine
end

