-- ==== Sys2Proof/Machine/Arithmetic.lean ====
section
/-! DEFINITION. Pressure, temperature and loss-rate arithmetic (spec/05), and the commands AMBIENT, LOAD and SET_LIMITS. -/

namespace Sys2Proof.Machine

/-! ## Stages 1 to 5 (R85 to R92) -/

/-- A pressure code in kPa absolute, absent when invalid (R85). -/
def pressureOf (code : BitVec 12) : Option Nat := if code.toNat = 4095 then none else some code.toNat

/-- A temperature code in °C, absent when invalid (R85). -/
def temperatureOf (code : BitVec 8) : Option Int := if code.toNat = 255 then none else some ((code.toNat : Int) - 50)

/-- Stage 2, the hot gauge, and whether it was clamped (R88). -/
def hotGauge (pc ambient : Nat) : Nat × Bool := if pc < ambient then (0, true) else (pc - ambient, false)

/-- Pca, the absolute pressure the same gas would show at the reference temperature (R89 step 2). -/
def coldAbsolute (pc tref : Nat) (t : Int) : Int :=
  ((pc : Int) * ((tref : Int) + 273) + (t + 273) / 2).tdiv (t + 273)

/-- Stage 3, the cold-equivalent gauge, and whether it was clamped (R89). -/
def coldGauge (pc ambient tref : Nat) (t : Int) : Nat × Bool :=
  let pg := coldAbsolute pc tref t - (ambient : Int)
  ((clampInt 0 4000 pg).toNat, decide (pg < 0 ∨ 4000 < pg))

/-- A sample appended to a window, the oldest dropped when it holds eight (R90 step 3). -/
def appendSample (w : List Sample) (x : Sample) : List Sample :=
  if Config.window ≤ w.length then w.drop 1 ++ [x] else w ++ [x]

/-- Stage 4 for a sample that is considered (R90). -/
def considerSample (interval : Nat) (f : FrameNo) (pg : Nat) (w : List Sample) : List Sample :=
  match w.getLast? with
  | none => [⟨f, pg⟩]
  | some newest =>
      if 3 * interval < age f newest.frame then [⟨f, pg⟩]
      else if interval ≤ age f newest.frame then appendSample w ⟨f, pg⟩
      else w

/-- Stage 4: the window after the assessment (R90). -/
def nextWindow (load : LoadState) (interval : Nat) (f : FrameNo) (pg : Option Nat) (w : List Sample) : List Sample :=
  match pg with
  | some g => if load = .tipping then w else considerSample interval f g w
  | none => w

/-- The unclamped loss rate between the oldest and the newest sample (R92). -/
def rawRate (oldest newest : Sample) (period : Nat) : Int :=
  ((((oldest.cold : Int) - (newest.cold : Int)) * 3600)).tdiv ((age newest.frame oldest.frame : Int) * (period : Int))

/-- Stage 5: the loss rate of a window, and whether it was clamped (R92). -/
def lossRate (w : List Sample) (period : Nat) : Option Int × Bool :=
  if w.length < 4 then (none, false)
  else
    match w.head?, w.getLast? with
    | some oldest, some newest =>
        let r := rawRate oldest newest period
        (some (clampInt (-999) 999 r), decide (r < -999 ∨ 999 < r))
    | _, _ => (none, false)

/-- The results of stages 1 to 5 (R86). -/
structure Results where
  hot : Option Nat
  cold : Option Nat
  temperature : Option Int
  history : List Sample
  rate : Option Int
  conditions : AssessConditions
  deriving DecidableEq, Repr

/-- Stages 1 to 5 on an entry and its captured values (R86). -/
def assess (e : QueueEntry) (c : Capture) : Results :=
  let pc := pressureOf e.telegram.pressureCode
  let t := temperatureOf e.telegram.temperatureCode
  let hot := pc.map (fun p => hotGauge p c.ambient)
  let cold := pc.bind (fun p => t.map (fun d => coldGauge p c.ambient c.limits.tref d))
  let history := nextWindow c.load c.limits.interval e.frame (cold.map Prod.fst) c.history
  let rate := if pc.isSome then lossRate history c.period else (none, false)
  { hot := hot.map Prod.fst, cold := cold.map Prod.fst, temperature := t, history := history, rate := rate.1
    conditions := { invalidCode := !(pc.isSome && t.isSome)
                    clamped := (hot.map Prod.snd).getD false || (cold.map Prod.snd).getD false || rate.2 } }

/-- The results with the window and the rate dropped, as the history mark asks (R77, R91). -/
def Results.dropHistory (r : Results) : Results := { r with history := [], rate := none }

/-! ## Stages 6 and 7 (R93 to R101) -/

/-- The nominal the captured load state selects (R93, R101). -/
def nominalOf (load : LoadState) (a : Axle) : Nat := if load = .empty then a.nominalEmpty else a.nominalLaden

/-- The three pressure thresholds (R93). -/
structure Thresholds where
  lowWarn : Nat
  lowAlarm : Nat
  highWarn : Nat
  deriving DecidableEq, Repr

/-- Stage 6 (R93). -/
def thresholds (n : Nat) (l : Limits) : Thresholds :=
  { lowWarn := n * (100 - l.lowWarnPct) / 100, lowAlarm := n * (100 - l.lowAlarmPct) / 100
    highWarn := (n * (100 + l.highWarnPct) + 99) / 100 }

/-- The outcomes of an evaluated kind's raising and clearing tests (R94, R106). -/
structure Verdict where
  raises : Bool
  clears : Bool
  deriving DecidableEq, Repr

/-- The cold gauge of a usable twin partner (R98). -/
def usablePartner (c : Capture) : Option Nat :=
  match c.partner with
  | some q =>
      match q.lastHeard with
      | some f => if c.axle.twin && q.state.bound && decide (age c.startFrame f < c.silenceLimit) then q.coldGauge else none
      | none => none
  | none => none

/-- The difference of two gauges. -/
def gaugeDiff (a b : Nat) : Nat := (a - b) + (b - a)

/-- The verdict of a pressure kind: it is evaluated when the cold gauge is present and the load is not TIPPING (R95). -/
def pressureVerdict (c : Capture) (r : Results) (v : Nat → Thresholds → Verdict) : Option Verdict :=
  match r.cold with
  | some pg => if c.load = .tipping then none else some (v pg (thresholds (nominalOf c.load c.axle) c.limits))
  | none => none

/-- The verdict of a temperature kind with a limit (R96). -/
def temperatureVerdict (r : Results) (limit : Nat) : Option Verdict :=
  r.temperature.map (fun t => ⟨decide ((limit : Int) ≤ t), decide (t < (limit : Int) - 3)⟩)

/-- The verdict of LEAK (R97). DESIGN CHOICE (log entry 18): with Lk = 1 a rate of exactly 0 does not clear it, as R97's clearing
test says (less than Lk div 2); R97's remark names a zero rate beside a negative one. -/
def leakVerdict (e : QueueEntry) (c : Capture) (r : Results) : Option Verdict :=
  let fast := e.telegram.flags.fastLoss
  if c.load = .tipping then none
  else
    match r.rate with
    | some x =>
        some ⟨fast || decide ((c.limits.leak : Int) ≤ x), !fast && decide (x < ((c.limits.leak / 2 : Nat) : Int))⟩
    | none => if fast then some ⟨true, false⟩ else none

/-- The verdict of DUAL_IMBALANCE (R98, R99). -/
def dualVerdict (c : Capture) (r : Results) : Option Verdict :=
  match r.cold, usablePartner c with
  | some pg, some q =>
      if c.load = .tipping then none
      else some ⟨decide (c.limits.dual ≤ gaugeDiff pg q), decide (gaugeDiff pg q < max (c.limits.dual - c.limits.hysteresis) 1)⟩
  | _, _ => none

/-- The verdict of SENSOR_FAULT (R100). -/
def faultVerdict (e : QueueEntry) : Verdict :=
  let bad := e.telegram.flags.fault || e.telegram.pressureCode.toNat == 4095 || e.telegram.temperatureCode.toNat == 255
  ⟨bad, !bad⟩

/-- Stage 7: a kind's verdict, `none` when the kind is not evaluated (R94 to R100). `here` is the position's state at the
completion. -/
def verdict (e : QueueEntry) (c : Capture) (r : Results) (here : PosState) : Kind → Option Verdict
  | .lowAlarm => pressureVerdict c r (fun pg th => ⟨decide (pg < th.lowAlarm), decide (th.lowAlarm + c.limits.hysteresis ≤ pg)⟩)
  | .lowWarn => pressureVerdict c r (fun pg th => ⟨decide (pg < th.lowWarn), decide (th.lowWarn + c.limits.hysteresis ≤ pg)⟩)
  | .highWarn => pressureVerdict c r (fun pg th => ⟨decide (th.highWarn < pg), decide (pg ≤ th.highWarn - c.limits.hysteresis)⟩)
  | .hotAlarm => temperatureVerdict r c.limits.hotAlarm
  | .hotWarn => temperatureVerdict r c.limits.hotWarn
  | .leak => leakVerdict e c r
  | .dualImbalance => dualVerdict c r
  | .sensorFault => some (faultVerdict e)
  | .batteryLow => some ⟨decide (e.telegram.battery.toNat ≤ 1), decide (3 ≤ e.telegram.battery.toNat)⟩
  | .missing => some ⟨here == .missing, here != .missing⟩

/-! ## AMBIENT, LOAD, SET_LIMITS (R81 to R83) -/

/-- AMBIENT's owner (R81). -/
def ownAmbient : Owner := fun payload s =>
  match payload with
  | [b] =>
      let a := clampNat 50 110 b.toNat
      ({ s with config := { s.config with ambient := a } }, Answer.doneOrClamped (a != b.toNat) [u8 a])
  | _ => (s, Answer.refused .badLength)

/-- AMBIENT (R81). -/
def execAmbient (payload : List Byte) (s : State) : Host.Outcome State Fault Refusal :=
  .next (s.commandFrame .ambient ownAmbient payload)

/-- LOAD's owner (R82). -/
def ownLoad : Owner := fun payload s =>
  match payload with
  | [b] =>
      match loadOf b with
      | some l => ({ s with modes := { s.modes with load := l } }, Answer.done [l.code])
      | none => (s, Answer.refused .badArgument)
  | _ => (s, Answer.refused .badLength)

/-- LOAD (R82). -/
def execLoad (payload : List Byte) (s : State) : Host.Outcome State Fault Refusal :=
  .next (s.commandFrame .load ownLoad payload)

/-- The ten limits in SET_LIMITS's payload layout (R176). -/
def Limits.bytes (l : Limits) : List Byte :=
  [u8 l.tref, u8 l.lowWarnPct, u8 l.lowAlarmPct, u8 l.highWarnPct, u8 l.hysteresis, u8 l.hotWarn, u8 l.hotAlarm, u8 l.leak] ++
    u16 l.dual ++ [u8 l.interval]

/-- The limits clamped to their ranges (R83 step 1). -/
def Limits.clamp (l : Limits) : Limits :=
  { tref := clampNat 0 40 l.tref, lowWarnPct := clampNat 1 50 l.lowWarnPct, lowAlarmPct := clampNat 2 80 l.lowAlarmPct
    highWarnPct := clampNat 1 50 l.highWarnPct, hysteresis := clampNat 0 100 l.hysteresis
    hotWarn := clampNat 40 150 l.hotWarn, hotAlarm := clampNat 41 180 l.hotAlarm, leak := clampNat 1 200 l.leak
    dual := clampNat 10 400 l.dual, interval := clampNat 10 255 l.interval }

/-- SET_LIMITS's payload read (R176). -/
def limitsOf : List Byte → Option Limits
  | [tref, pw, pa, ph, h, tw, ta, lk, d1, d0, i] =>
      some { tref := tref.toNat, lowWarnPct := pw.toNat, lowAlarmPct := pa.toNat, highWarnPct := ph.toNat
             hysteresis := h.toNat, hotWarn := tw.toNat, hotAlarm := ta.toNat, leak := lk.toNat
             dual := (read16 d1 d0).toNat, interval := i.toNat }
  | _ => none

/-- SET_LIMITS's owner (R83). -/
def ownSetLimits : Owner := fun payload s =>
  match limitsOf payload with
  | some l =>
      if l.clamp.lowAlarmPct ≤ l.clamp.lowWarnPct ∨ l.clamp.hotAlarm ≤ l.clamp.hotWarn then
        (s, Answer.refused .badArgument s.config.limits.bytes)
      else ({ s with config := { s.config with limits := l.clamp } }, Answer.doneOrClamped (l.clamp != l) l.clamp.bytes)
  | none => (s, Answer.refused .badLength)

/-- SET_LIMITS (R83). -/
def execSetLimits (payload : List Byte) (s : State) : Host.Outcome State Fault Refusal :=
  .next (s.commandFrame .setLimits ownSetLimits payload)

end Sys2Proof.Machine
end

