-- ==== Sys2Proof/Machine/Alarms.lean ====
section
/-! DEFINITION. The alarm unit (spec/06): confirmation, raising and clearing, the silence check, SET_CLASS, ACK_ALARM,
GET_SUMMARY. -/

namespace Sys2Proof.Machine

/-! ## Raising, re-raising and clearing (R111 to R115) -/

/-- The priority number of an ALARM notice of a class; a class-0 kind queues none (R111, R115). -/
def alarmPriority (cls : Fin 3) : Option Nat := if cls = 2 then some 0 else if cls = 1 then some 2 else none

/-- The state with one sub-record of a position replaced. -/
def State.setAlarm (s : State) (p : Nat) (k : Kind) (a : SubRecord) : State :=
  s.setPos p { s.pos p with alarms := (s.pos p).alarms.put k a }

/-- An ALARM notice is queued for class 1 or 2, with the record's cold gauge and temperature (R115). -/
def State.queueAlarm (s : State) (p : Nat) (k : Kind) (event : AlarmEvent) (frame : FrameNo) : State :=
  match alarmPriority (s.kinds.get k).cls with
  | some n => s.queueNotice (.alarm p k event frame (s.pos p).wheel.coldGauge (s.pos p).wheel.temperature) n
  | none => s

/-- A kind becomes active (R111). -/
def State.becomeActive (s : State) (p : Nat) (k : Kind) (frame : FrameNo) : State :=
  (s.setAlarm p k ⟨true, true, 0⟩).queueAlarm p k .raised frame

/-- A LEVEL kind is raised again (R112). -/
def State.raiseAgain (s : State) (p : Nat) (k : Kind) (frame : FrameNo) : State :=
  (s.setAlarm p k ⟨true, true, ((s.pos p).alarms.get k).count⟩).queueAlarm p k .reRaised frame

/-- A kind becomes inactive (R114): CLEARED is queued only when no waiting raise was withdrawn. -/
def State.becomeInactive (s : State) (p : Nat) (k : Kind) (frame : FrameNo) : State :=
  let w := s.store.withdraw (Notice.raiseFor p k)
  let moved := State.setAlarm { s with store := w.1 } p k ⟨false, ((s.pos p).alarms.get k).pending, 0⟩
  if w.2 = 0 then moved.queueAlarm p k .cleared frame else moved

/-! ## Confirmation (R106 to R109, R112, R113) -/

/-- The condition, from the test that the active value selects (R94). -/
def conditionOf (v : Verdict) (active : Bool) : Bool := if active then !v.clears else v.raises

/-- An evaluated kind that stays active with a true condition is raised again when it is LEVEL and acknowledged (R112);
MISSING is not, whatever its type (R109). -/
def State.standing (s : State) (p : Nat) (k : Kind) (frame : FrameNo) : State :=
  let a := (s.pos p).alarms.get k
  let kept := s.setAlarm p k { a with count := 0 }
  if a.active && !a.pending && (s.kinds.get k).type == .level && k != .missing then kept.raiseAgain p k frame else kept

/-- The condition disagrees with the active value (R107); MISSING is not confirmed (R109). -/
def State.disagreeing (s : State) (p : Nat) (k : Kind) (frame : FrameNo) : State :=
  let a := (s.pos p).alarms.get k
  let confirmed : Bool := match (s.kinds.get k).confirm with
    | some c => if k = .missing then true else a.count + 1 == c
    | none => true
  if confirmed then
    if a.active then s.becomeInactive p k frame else s.becomeActive p k frame
  else s.setAlarm p k { a with count := a.count + 1 }

/-- One kind of a position meets its verdict at a completion (R106). A kind that is not evaluated is held (R108). -/
def State.judgeKind (s : State) (p : Nat) (frame : FrameNo) (k : Kind) (v : Option Verdict) : State :=
  match v with
  | none => s
  | some v =>
      if conditionOf v ((s.pos p).alarms.get k).active = ((s.pos p).alarms.get k).active then s.standing p k frame
      else s.disagreeing p k frame

/-- The ten kinds are taken in kind order (R106), and LAMP is judged again (R123). -/
def State.judgeAlarms (s : State) (p : Nat) (frame : FrameNo) (v : Kind → Option Verdict) : State :=
  (Kind.all.foldl (fun t k => t.judgeKind p frame k (v k)) s).judgeLamp

/-! ## The silence check (R13, R110) -/

/-- A record that the silence check makes MISSING at the end of a frame (R13). -/
def silent (now : FrameNo) (limit : Nat) (r : Position) : Bool :=
  match r.state with
  | .active =>
      match r.wheel.lastHeard with
      | some f => decide (limit ≤ age now f)
      | none => false
  | .assigned => decide (limit ≤ age now r.stateEntry)
  | _ => false

/-- A position becomes MISSING and its MISSING kind active, without confirmation (R13, R110). -/
def State.becomeMissing (s : State) (p : Nat) : State :=
  let t := s.setPos p { s.pos p with state := .missing, stateEntry := s.seq.frameNumber }
  if ((s.pos p).alarms.get .missing).active then t else t.becomeActive p .missing s.seq.frameNumber

/-- The silence check at a frame end, in position index order (R13, R110). -/
def State.silenceCheck (s : State) : State :=
  (allPositions.foldl
    (fun t p => if silent s.seq.frameNumber s.seq.silenceLimit (t.pos p) then t.becomeMissing p else t) s).judgeLamp

/-! ## SET_CLASS (R104) -/

/-- A kind's setting in SET_CLASS's payload layout; for MISSING the confirm count byte is 00h (R177). -/
def KindSetting.bytes (k : Kind) (x : KindSetting) : List Byte :=
  [k.code, u8 x.cls.val, x.type.code, u8 (x.confirm.getD 0)]

/-- SET_CLASS's owner (R104). -/
def ownSetClass : Owner := fun payload s =>
  match payload with
  | [k, c, t, n] =>
      match kindOf k, classOf c, reportTypeOf t with
      | some k, some c, some t =>
          let count := clampNat 1 4 n.toNat
          let x : KindSetting := ⟨c, t, if k = .missing then none else some count⟩
          ({ s with kinds := s.kinds.put k x }, Answer.doneOrClamped (k != .missing && count != n.toNat) (x.bytes k))
      | _, _, _ => (s, Answer.refused .badArgument)
  | _ => (s, Answer.refused .badLength)

/-- SET_CLASS (R104). -/
def execSetClass (payload : List Byte) (s : State) : Host.Outcome State Fault Refusal :=
  .next (s.commandFrame .setClass ownSetClass payload)

/-! ## ACK_ALARM (R116, R117) -/

/-- One sub-record is acknowledged: pending cleared, its waiting ALARM notices withdrawn (R117). The two counts are of
pending sub-records and withdrawn notices so far. -/
def ackOne (p : Nat) (acc : State × Nat × Nat) (k : Kind) : State × Nat × Nat :=
  let s := acc.1
  let a := (s.pos p).alarms.get k
  let w := s.store.withdraw (Notice.alarmFor p k)
  (State.setAlarm { s with store := w.1 } p k { a with pending := false },
    acc.2.1 + (if a.pending then 1 else 0), acc.2.2 + w.2)

/-- The kinds of a set are acknowledged at one position, in kind order (R117). -/
def ackPosition (ks : KindSet) (acc : State × Nat × Nat) (p : Nat) : State × Nat × Nat :=
  (Kind.all.filter (fun k => kindIn k ks)).foldl (ackOne p) acc

/-- The positions an ACK_ALARM names: one, or every bound position in index order (R116). -/
def ackPositions (s : State) : AckTarget → List Nat
  | .position p => [p]
  | .all => allPositions.filter (fun p => (s.pos p).state.bound)

/-- ACK_ALARM's effect and its two counts (R117); LAMP is judged again (R123). -/
def State.acknowledge (s : State) (t : AckTarget) (ks : KindSet) : State × Nat × Nat :=
  let r := (ackPositions s t).foldl (ackPosition ks) (s, 0, 0)
  (r.1.judgeLamp, r.2)

/-- The position an ACK_ALARM names is not bound (R116 check 3). -/
def ackNotBound (s : State) : AckTarget → Bool
  | .position p => !(s.pos p).state.bound
  | .all => false

/-- ACK_ALARM's owner (R116). -/
def ownAckAlarm : Owner := fun payload s =>
  match payload with
  | [t, k1, k0] =>
      match targetOf t, kindSetField k1 k0 with
      | some t, some ks =>
          if ks = 0#10 then (s, Answer.refused .badArgument)
          else if ackNotBound s t then (s, Answer.refused .notBound)
          else
            let r := s.acknowledge t ks
            (r.1, Answer.done (u16 r.2.1 ++ [u8 r.2.2]))
      | _, _ => (s, Answer.refused .badArgument)
  | _ => (s, Answer.refused .badLength)

/-- ACK_ALARM (R116). -/
def execAckAlarm (payload : List Byte) (s : State) : Host.Outcome State Fault Refusal :=
  .next (s.commandFrame .ackAlarm ownAckAlarm payload)

/-! ## Pending alarms and GET_SUMMARY (R121, R122) -/

/-- The pending alarms of one class, by position index and then kind order (R121). -/
def State.pendingOfClass (s : State) (cls : Fin 3) : List (Nat × Kind) :=
  (allPositions.map (fun p =>
    (Kind.all.filter (fun k => ((s.pos p).alarms.get k).pending && (s.kinds.get k).cls == cls)).map (fun k => (p, k)))).flatten

/-- The pending alarms in priority order (R121). -/
def State.pendingAlarms (s : State) : List (Nat × Kind) := s.pendingOfClass 2 ++ s.pendingOfClass 1 ++ s.pendingOfClass 0

/-- One entry of GET_SUMMARY's position part (R122, R178). -/
def State.summaryEntry (s : State) (p : Nat) : List Byte :=
  [u8 p, (s.pos p).state.code] ++ kindSetBytes (kindSetOf (fun k => ((s.pos p).alarms.get k).active)) ++
    kindSetBytes (kindSetOf (fun k => ((s.pos p).alarms.get k).pending))

/-- GET_SUMMARY's data (R122, R178). -/
def State.summary (s : State) : List Byte :=
  let pending := s.pendingAlarms
  let fitted := allPositions.filter s.fitted
  u16 pending.length ++ ((pending.take 16).map (fun x => [u8 x.1, x.2.code])).flatten ++ [u8 fitted.length] ++
    (fitted.map s.summaryEntry).flatten

/-- GET_SUMMARY's owner (R122). -/
def ownGetSummary : Owner := fun _ s => (s, Answer.done s.summary)

/-- GET_SUMMARY (R122). -/
def execGetSummary (payload : List Byte) (s : State) : Host.Outcome State Fault Refusal :=
  .next (s.commandFrame .getSummary ownGetSummary payload)

end Sys2Proof.Machine
end

