-- ==== Sys2Proof/Machine/Join.lean ====
section
/-! DEFINITION. The join controller (spec/03): filters, the JOIN decision, the candidate and re-offer lists, offers, expiry,
and the commands SET_FILTER, LEARN, BIND, UNBIND, CANCEL, GET_CANDIDATES. -/

namespace Sys2Proof.Machine

/-! ## Filters (R41, R42) -/

/-- A sensor ID matches an entry: every bit where the mask holds 0 equals the code's (R41). -/
def AcceptFilter.matchesId (f : AcceptFilter) (id : SensorId) : Bool := (id ^^^ f.code) &&& ~~~f.mask == 0#32

/-- A sensor ID is admitted: an enabled entry matches it (R41). -/
def admits (fs : List AcceptFilter) (id : SensorId) : Bool := fs.any (fun f => f.enable && f.matchesId id)

/-- A filter in SET_FILTER's payload layout (R176, R177). -/
def AcceptFilter.bytes (n : Nat) (f : AcceptFilter) : List Byte :=
  [u8 n] ++ bytes32 f.code ++ bytes32 f.mask ++ [yesNo f.enable]

/-- SET_FILTER's owner (R42). -/
def ownSetFilter : Owner := fun payload s =>
  match payload with
  | [n, c3, c2, c1, c0, m3, m2, m1, m0, e] =>
      match yesNoOf e with
      | some e =>
          if n.toNat < Config.filters then
            let f : AcceptFilter := ⟨read32 c3 c2 c1 c0, read32 m3 m2 m1 m0, e⟩
            ({ s with join := { s.join with filters := s.join.filters.set n.toNat f } }, Answer.done (f.bytes n.toNat))
          else (s, Answer.refused .badArgument)
      | none => (s, Answer.refused .badArgument)
  | _ => (s, Answer.refused .badLength)

/-- SET_FILTER (R42). -/
def execSetFilter (payload : List Byte) (s : State) : Host.Outcome State Fault Refusal :=
  .next (s.commandFrame .setFilter ownSetFilter payload)

/-! ## The candidate list (R47 to R49) -/

/-- The state with another candidate list. -/
def State.setCandidates (s : State) (cs : List Candidate) : State := { s with join := { s.join with candidates := cs } }

/-- The state with another re-offer list. -/
def State.setReoffers (s : State) (ids : List SensorId) : State := { s with join := { s.join with reoffers := ids } }

/-- A candidate enters at the tail, or is dropped from a full list with CANDIDATE_OVERRUN (R45, R48). -/
def State.appendCandidate (s : State) (c : Candidate) : State :=
  if s.join.candidates.length < Config.candidates then s.setCandidates (s.join.candidates ++ [c]) else s.raise .candidateOverrun

/-- The candidates an age-out at the end of a frame keeps (R49). -/
def youngCandidates (now : FrameNo) (cs : List Candidate) : List Candidate :=
  cs.filter (fun c => decide (age now c.lastHeard < Config.candidateAge))

/-- Candidates are aged out (R49). -/
def State.ageOut (s : State) : State := s.setCandidates (youngCandidates s.seq.frameNumber s.join.candidates)

/-! ## The JOIN decision (R43 to R46) -/

/-- A position in a state that meets a test holds the ID. -/
def State.idHeld (s : State) (f : PosState → Bool) (id : SensorId) : Bool := s.positions.any (fun r => r.holds f id)

/-- Step 1: the ID of a bound sensor is appended to the re-offer list (R44, R50). -/
def State.reoffer (s : State) (id : SensorId) : State :=
  if id ∈ s.join.reoffers then s
  else if s.join.reoffers.length < Config.reoffers then s.setReoffers (s.join.reoffers ++ [id])
  else s

/-- A candidate refreshed by a JOIN (R45 step 4). -/
def Candidate.refresh (c : Candidate) (e : QueueEntry) : Candidate :=
  { c with channel := e.channel, lastHeard := e.frame, pressureCode := e.telegram.pressureCode
           temperatureCode := e.telegram.temperatureCode, triggerSeen := c.triggerSeen || e.telegram.flags.trigger }

/-- A candidate made from a JOIN (R45 step 5). -/
def Candidate.ofJoin (e : QueueEntry) : Candidate :=
  { id := e.telegram.id, channel := e.channel, firstHeard := e.frame, lastHeard := e.frame
    pressureCode := e.telegram.pressureCode, temperatureCode := e.telegram.temperatureCode
    triggerSeen := e.telegram.flags.trigger }

/-- The CANDIDATE notice of a new entry (R45, R138). -/
def Candidate.notice (c : Candidate) : Notice :=
  .candidate c.id c.channel c.triggerSeen c.pressureCode c.temperatureCode

/-- The entry of the candidate list with an ID. -/
def findCandidate (id : SensorId) (cs : List Candidate) : Option Candidate := cs.find? (fun c => c.id == id)

/-- The candidate list without the entry of an ID. -/
def removeCandidate (id : SensorId) (cs : List Candidate) : List Candidate := cs.filter (fun c => !(c.id == id))

/-- A position becomes OFFERED with a candidate, which leaves the list (R9, R46, R57). -/
def State.offerTo (s : State) (p : Nat) (c : Candidate) : State :=
  (s.setCandidates (removeCandidate c.id s.join.candidates)).setPos p
    { s.pos p with state := .offered, sensorId := some c.id, stateEntry := s.seq.frameNumber
                   offer := some ⟨Config.offerBeacons, c⟩, learn := none }

/-- The LEARNING position, if there is one; at most one is (R56). -/
def State.learningPosition (s : State) : Option Nat := allPositions.find? (fun p => (s.pos p).state == .learning)

/-- Step 6: a JOIN that itself carries TRIGGER gives its candidate to the LEARNING position (R46). -/
def State.learnFrom (s : State) (e : QueueEntry) : State :=
  match s.learningPosition, findCandidate e.telegram.id s.join.candidates with
  | some p, some c => if e.telegram.flags.trigger then s.offerTo p c else s
  | _, _ => s

/-- Steps 4 to 6 for an admitted JOIN (R45, R46). -/
def State.admitJoin (s : State) (e : QueueEntry) : State :=
  if (findCandidate e.telegram.id s.join.candidates).isSome then
    (s.setCandidates (s.join.candidates.map (fun c => if c.id = e.telegram.id then c.refresh e else c))).learnFrom e
  else if s.join.candidates.length < Config.candidates then
    ((s.setCandidates (s.join.candidates ++ [Candidate.ofJoin e])).queueNotice (Candidate.ofJoin e).notice 5).learnFrom e
  else s.raise .candidateOverrun

/-- The JOIN decision (R43 to R46). A JOIN that completes in CONFIG is dropped. -/
def State.joinDecision (s : State) (e : QueueEntry) : State :=
  if s.modes.mode = .config then s
  else if s.idHeld PosState.bound e.telegram.id then s.reoffer e.telegram.id
  else if s.idHeld (· == .offered) e.telegram.id then s
  else if admits s.join.filters e.telegram.id then s.admitJoin e
  else s

/-! ## Offers in the beacon (R51, R52) -/

/-- The offers of the OFFERED positions, in position index order (R51 step 1). -/
def State.ownOffers (s : State) : List OfferEntry :=
  allPositions.filterMap (fun p =>
    match (s.pos p).state, (s.pos p).sensorId with
    | .offered, some id => some ⟨p + 1, id, true⟩
    | _, _ => none)

/-- The bound position that holds an ID. -/
def State.boundPosition (s : State) (id : SensorId) : Option Nat :=
  allPositions.find? (fun p => (s.pos p).holds PosState.bound id)

/-- The re-offers, oldest first; an ID that no bound position holds is passed over (R51 step 2). -/
def State.reofferEntries (s : State) : List OfferEntry :=
  s.join.reoffers.filterMap (fun id => (s.boundPosition id).map (fun p => ⟨p + 1, id, false⟩))

/-- The four offer places (R51). -/
def State.offerPlaces (s : State) : List OfferEntry := (s.ownOffers ++ s.reofferEntries).take Config.offerPlaces

/-- The position was OFFERED with the ID when the running frame's beacon was built (R52): it is OFFERED with it, and has not
become so since, for a position that changes after the beacon was built takes the running frame's number as its state-entry
frame (R10). -/
def State.offeredInBeacon (s : State) (r : Position) (id : SensorId) : Bool :=
  r.holds (· == .offered) id && r.stateEntry != s.seq.frameNumber

/-- One offer entry of a beacon that has been sent is counted (R52). -/
def State.countOffer (s : State) (o : OfferEntry) : State :=
  let r := s.pos (o.slot - 1)
  match r.offer with
  | some f =>
      if o.isOffer && s.offeredInBeacon r o.id then
        s.setPos (o.slot - 1) { r with offer := some { f with remaining := f.remaining - 1 } }
      else s
  | none => s

/-- The join controller counts the offers a sent beacon carried (R52). -/
def State.countOffers (s : State) (os : List OfferEntry) : State := os.foldl State.countOffer s

/-! ## Frame-end work (R54, R55) -/

/-- The candidate a position's offer record holds is returned to the list (R48). -/
def State.returnCandidate (s : State) (o : Option Offer) : State :=
  match o with
  | some f => s.appendCandidate f.candidate
  | none => s

/-- The offer of an OFFERED position has run out (R55 step 2). -/
def offerOver (r : Position) : Bool :=
  r.state == .offered && (match r.offer with
    | some f => f.remaining == 0
    | none => false)

/-- One position's offer expires: it becomes VACANT, BIND FAILED_TIMEOUT is queued, its candidate is returned (R55). -/
def State.expireOffer (s : State) (p : Nat) : State :=
  ((s.enterEmpty p .vacant).queueNotice (.bind p (s.pos p).sensorId .failedTimeout) 3).returnCandidate (s.pos p).offer

/-- Offer expiry, in position index order (R55 step 2). -/
def State.expireOffers (s : State) : State :=
  allPositions.foldl (fun t p => if offerOver (t.pos p) then t.expireOffer p else t) s

/-- The learn of a LEARNING position reaches 0 at this frame end (R55 step 3). -/
def learnOver (r : Position) : Bool :=
  r.state == .learning && (match r.learn with
    | some n => decide (n ≤ 1)
    | none => false)

/-- One position's learn expires (R55 step 3). -/
def State.expireLearn (s : State) (p : Nat) : State :=
  (s.enterEmpty p .vacant).queueNotice (.bind p none .failedTimeout) 3

/-- Learn expiry, in position index order (R55 step 3). -/
def State.expireLearns (s : State) : State :=
  allPositions.foldl (fun t p => if learnOver (t.pos p) then t.expireLearn p else t) s

/-- A learn record counted down by one (R55 step 3). -/
def Position.countLearn (r : Position) : Position :=
  match r.state, r.learn with
  | .learning, some n => { r with learn := some (n - 1) }
  | _, _ => r

/-- The learn countdown: the learns that reach 0 expire, the others lose one frame (R55 step 3). -/
def State.countLearns (s : State) : State :=
  { s.expireLearns with positions := s.expireLearns.positions.map Position.countLearn }

/-- One step of R55, made when the frame end's work stands at that step. -/
def State.joinStep (s : State) (here next : JoinWork) (work : State → State) : State :=
  if s.joinWork = here then { work s with joinWork := next } else s

/-- The join controller's work at this frame end as far as step 1, the age-out (R49, R55). -/
def State.joinToAgeOut (s : State) : State := s.joinStep .due .agedOut State.ageOut

/-- The join controller's work at this frame end as far as step 2, offer expiry (R55). -/
def State.joinToOffers (s : State) : State := s.joinToAgeOut.joinStep .agedOut .offersExpired State.expireOffers

/-- The join controller's work at a frame end with no change to CONFIG, as far as its last step (R55). Each step is made
once at a frame end. -/
def State.joinFrameEnd (s : State) : State := s.joinToOffers.joinStep .offersExpired .learnsCounted State.countLearns

/-- One OFFERED or LEARNING position meets a change to CONFIG (R54). -/
def State.failBinding (s : State) (p : Nat) : State :=
  if (s.pos p).state.pendingBind then
    (s.enterEmpty p .vacant).queueNotice
      (.bind p (if (s.pos p).state = .offered then (s.pos p).sensorId else none) .failedMode) 3
  else s

/-- The join controller's work at a change to CONFIG (R54). -/
def State.joinToConfig (s : State) : State :=
  ((allPositions.foldl State.failBinding s).setCandidates []).setReoffers []

/-! ## LEARN, BIND, CANCEL, UNBIND (R56 to R59) -/

/-- Four positions are LEARNING or OFFERED together (R56, R57). -/
def State.pendingFull (s : State) : Bool := decide (Config.pendingPlaces ≤ s.countPositions PosState.pendingBind)

/-- LEARN's owner (R56). -/
def ownLearn : Owner := fun payload s =>
  match payload with
  | [b] =>
      match indexOf b with
      | some p =>
          if (s.pos p).state ≠ .vacant then (s, Answer.refused .notVacant)
          else if s.learningPosition.isSome then (s, Answer.refused .busy)
          else if s.pendingFull then (s, Answer.refused .busy)
          else
            (s.setPos p { s.pos p with state := .learning, stateEntry := s.seq.frameNumber, learn := some Config.learnFrames },
              Answer.done [b, u8 Config.learnFrames])
      | none => (s, Answer.refused .badArgument)
  | _ => (s, Answer.refused .badLength)

/-- LEARN (R56). -/
def execLearn (payload : List Byte) (s : State) : Host.Outcome State Fault Refusal :=
  .next (s.commandFrame .learn ownLearn payload)

/-- BIND's owner (R57). -/
def ownBind : Owner := fun payload s =>
  match payload with
  | [b, i3, i2, i1, i0] =>
      match indexOf b with
      | some p =>
          if (s.pos p).state ≠ .vacant then (s, Answer.refused .notVacant)
          else
            match findCandidate (read32 i3 i2 i1 i0) s.join.candidates with
            | none => (s, Answer.refused .noCandidate)
            | some c =>
                if s.pendingFull then (s, Answer.refused .busy)
                else (s.offerTo p c, Answer.done ([b] ++ bytes32 c.id ++ [u8 Config.offerBeacons]))
      | none => (s, Answer.refused .badArgument)
  | _ => (s, Answer.refused .badLength)

/-- BIND (R57). -/
def execBind (payload : List Byte) (s : State) : Host.Outcome State Fault Refusal :=
  .next (s.commandFrame .bind ownBind payload)

/-- CANCEL's owner (R58). -/
def ownCancel : Owner := fun payload s =>
  match payload with
  | [b] =>
      match indexOf b with
      | some p =>
          if (s.pos p).state.pendingBind then
            ((s.enterEmpty p .vacant).returnCandidate (s.pos p).offer, Answer.done [b, (s.pos p).state.code])
          else (s, Answer.refused .notPending)
      | none => (s, Answer.refused .badArgument)
  | _ => (s, Answer.refused .badLength)

/-- CANCEL (R58). -/
def execCancel (payload : List Byte) (s : State) : Host.Outcome State Fault Refusal :=
  .next (s.commandFrame .cancel ownCancel payload)

/-- UNBIND's owner (R59). -/
def ownUnbind : Owner := fun payload s =>
  match payload with
  | [b] =>
      match indexOf b with
      | some p =>
          if (s.pos p).state = .absent ∨ (s.pos p).state = .vacant then (s, Answer.refused .notBound)
          else
            ((s.enterEmpty p .vacant).returnCandidate (s.pos p).offer,
              Answer.done ([b, (s.pos p).state.code] ++ optField 4 bytes32 (s.pos p).sensorId))
      | none => (s, Answer.refused .badArgument)
  | _ => (s, Answer.refused .badLength)

/-- UNBIND (R59). -/
def execUnbind (payload : List Byte) (s : State) : Host.Outcome State Fault Refusal :=
  .next (s.commandFrame .unbind ownUnbind payload)

/-! ## GET_CANDIDATES (R63) -/

/-- One candidate entry in GET_CANDIDATES's data (R177). -/
def Candidate.bytes (c : Candidate) : List Byte :=
  bytes32 c.id ++ [channelCode c.channel] ++ bytes32 c.firstHeard ++ bytes32 c.lastHeard ++
    bytes16 (c.pressureCode.setWidth 16) ++ [c.temperatureCode, yesNo c.triggerSeen]

/-- GET_CANDIDATES's owner (R63). -/
def ownGetCandidates : Owner := fun _ s =>
  (s, Answer.done (u8 s.join.candidates.length :: (s.join.candidates.map Candidate.bytes).flatten))

/-- GET_CANDIDATES (R63). -/
def execGetCandidates (payload : List Byte) (s : State) : Host.Outcome State Fault Refusal :=
  .next (s.commandFrame .getCandidates ownGetCandidates payload)

/-! ## The rows of the join controller's frame-end work (log entry 5) -/

/-- A frame runs and no change to CONFIG is pending, so the frame end's usual work is due (R13, R53). -/
def State.usualFrameEnd (s : State) : Bool :=
  s.modes.mode != .config && s.seq.timer != .stopped && s.modes.pending != some .config

/-- OFFER_EXPIRY (R55 step 2): the join controller's work at the running frame's end, as far as the offer expiries. -/
def execOfferExpiry (s : State) : Host.Outcome State Fault Refusal := .next (if s.usualFrameEnd then s.joinToOffers else s)

/-- LEARN_EXPIRY (R55 step 3): the join controller's work at the running frame's end, as far as the learn countdown. -/
def execLearnExpiry (s : State) : Host.Outcome State Fault Refusal := .next (if s.usualFrameEnd then s.joinFrameEnd else s)

/-- AGE_OUT (R49, R55 step 1): the join controller's work at the running frame's end, as far as the age-out. -/
def execAgeOut (s : State) : Host.Outcome State Fault Refusal := .next (if s.usualFrameEnd then s.joinToAgeOut else s)

/-- SILENCE_CHECK (R13, R110). -/
def execSilenceCheck (s : State) : Host.Outcome State Fault Refusal := .next (if s.usualFrameEnd then s.silenceCheck else s)

end Sys2Proof.Machine
end

