-- ==== Sys2Proof/Machine/Engine.lean ====
section
/-! DEFINITION. The receive queue and the assessment engine (spec/04): the start check and capture, completions, and
SET_READINGS. -/

namespace Sys2Proof.Machine

/-! ## Starting (R67 to R69) -/

/-- The effective frame period of a mode, in seconds (R20). No frame runs in CONFIG. -/
def effectivePeriod (m : Mode) (p : Nat) : Nat := if m = .park then 8 * p else p

/-- The position a REPORT entry concerns (R65). -/
def QueueEntry.position (e : QueueEntry) : Nat := e.slot - 1

/-- The entry's position is bound and holds the entry's sensor ID (R68, R71). -/
def State.entryHolds (s : State) (e : QueueEntry) : Bool := (s.pos e.position).holds PosState.bound e.telegram.id

/-- What is captured at the start of a REPORT assessment (R69). -/
def State.capture (s : State) (e : QueueEntry) : Capture :=
  let p := e.position
  let q := s.pos (partnerOf p)
  { load := s.modes.load, ambient := s.config.ambient, limits := s.config.limits
    period := effectivePeriod s.modes.mode s.seq.period, silenceLimit := s.seq.silenceLimit, axle := s.axleOf p
    history := (s.pos p).wheel.history
    partner := if (s.axleOf p).twin then some ⟨q.state, q.wheel.coldGauge, q.wheel.lastHeard⟩ else none
    startFrame := s.seq.frameNumber }

/-- The entry goes into flight with both marks clear (R67, R69). -/
def State.start (s : State) (e : QueueEntry) : State :=
  { s with engine := .busy { entry := e, capture := if e.telegram.kind = .report then some (s.capture e) else none
                             voidMark := false, historyMark := false } }

/-- The idle engine takes entries from the head until one starts or the queue is empty (R67, R68). -/
def State.takeFrom (s : State) : List QueueEntry → State
  | [] => { s with queue := [] }
  | e :: rest =>
      if e.telegram.kind = .join ∨ s.entryHolds e then State.start { s with queue := rest } e else s.takeFrom rest

/-- Whenever the engine is IDLE and the queue is not empty, it takes the head entry (R67). -/
def State.runEngine (s : State) : State :=
  match s.engine with
  | .idle => s.takeFrom s.queue
  | .busy _ => s

/-- ASSESSMENT_START (R68). -/
def execAssessmentStart (s : State) : Host.Outcome State Fault Refusal := .next s.runEngine

/-! ## Completion of a REPORT (R71 to R73) -/

/-- The conditions an assessment met are raised, INVALID_CODE before CLAMPED (R72 step 1, R128). -/
def State.raiseMet (s : State) (c : AssessConditions) : State :=
  let t := if c.invalidCode then s.raise .invalidCode else s
  if c.clamped then t.raise .clamped else t

/-- The wheel data with an assessment's results taken (R8). -/
def WheelData.taken (w : WheelData) (e : QueueEntry) (r : Results) : WheelData :=
  { w with hotGauge := r.hot, coldGauge := r.cold, temperature := r.temperature, lossRate := r.rate
           battery := some e.telegram.battery, flags := e.telegram.flags, history := r.history
           lastConditions := r.conditions }

/-- The results are written to the record (R8, R72 step 2). -/
def State.writeRecord (s : State) (e : QueueEntry) (r : Results) : State :=
  s.setPos e.position { s.pos e.position with wheel := (s.pos e.position).wheel.taken e r }

/-- The READING notice of a completion (R139): the record's fields as written. -/
def State.readingNotice (s : State) (e : QueueEntry) : Notice :=
  let w := (s.pos e.position).wheel
  .reading e.position w.hotGauge w.coldGauge w.temperature e.telegram.battery w.lossRate e.frame

/-- A READING notice is queued when readings are enabled (R72 step 4, R139). -/
def State.queueReading (s : State) (e : QueueEntry) : State :=
  if s.store.readings then s.queueNotice (s.readingNotice e) 7 else s

/-- The results that are handed on: the window and the rate are dropped when the history mark is set or the completion is
made in CONFIG (R72, R73, R77). -/
def handedResults (w : InFlight) (c : Capture) (mode : Mode) : Results :=
  if w.historyMark || mode == .config then (assess w.entry c).dropHistory else assess w.entry c

/-- The results of a REPORT are taken and handed on (R72, R73). -/
def State.handOn (s : State) (w : InFlight) (c : Capture) : State :=
  let e := w.entry
  let r := handedResults w c s.modes.mode
  let written := (s.raiseMet r.conditions).writeRecord e r
  if s.modes.mode = .config then written
  else (written.judgeAlarms e.position e.frame (verdict e c r (s.pos e.position).state)).queueReading e

/-- A REPORT completes: its results are discarded whole or taken (R71). -/
def State.completeReport (s : State) (w : InFlight) (c : Capture) : State :=
  if w.voidMark || !s.entryHolds w.entry then s else s.handOn w c

/-- The engine becomes IDLE with both marks clear and takes the next head entry (R70). -/
def State.finish (s : State) : State := State.runEngine { s with engine := .idle }

/-- REPORT_COMPLETION (R71). With no REPORT in flight there is none to complete (log entry 3). -/
def execReportCompletion (s : State) : Host.Outcome State Fault Refusal :=
  match s.engine with
  | .busy w =>
      match w.capture with
      | some c => .next (s.completeReport w c).finish
      | none => .next s
  | .idle => .next s

/-- JOIN_COMPLETION (R43, R74). With no JOIN in flight there is none to complete (log entry 3). -/
def execJoinCompletion (s : State) : Host.Outcome State Fault Refusal :=
  match s.engine with
  | .busy w =>
      match w.capture with
      | some _ => .next s
      | none => .next (s.joinDecision w.entry).finish
  | .idle => .next s

/-! ## SET_READINGS (R140) -/

/-- SET_READINGS's owner (R140). -/
def ownSetReadings : Owner := fun payload s =>
  match payload with
  | [b] =>
      match yesNoOf b with
      | some r => ({ s with store := { s.store with readings := r } }, Answer.done [b])
      | none => (s, Answer.refused .badArgument)
  | _ => (s, Answer.refused .badLength)

/-- SET_READINGS (R140). -/
def execSetReadings (payload : List Byte) (s : State) : Host.Outcome State Fault Refusal :=
  .next (s.commandFrame .setReadings ownSetReadings payload)

end Sys2Proof.Machine
end

