-- ==== Sys2Proof/Machine/Link.lean ====
section
/-! DEFINITION. The frame sequencer and the link receiver (spec/02): the beacon, frame starts, arrivals, and the commands
SET_LINK, SENSOR_MODE and INJECT. -/

namespace Sys2Proof.Machine

/-! ## The beacon and the frame start (R19 to R26, R37) -/

/-- The beacon's downlink word (R26). -/
def downlinkWord (m : Mode) (stored : Option DownlinkValue) : Option DownlinkValue := if m = .park then some .park else stored

/-- The beacon built from the state standing at the frame start (R24). -/
def State.buildBeacon (s : State) : Beacon :=
  { vehicleCode := s.seq.vehicleCode
    frameLow := s.seq.frameNumber.setWidth 16
    linkMode := s.modes.mode
    assignedMap := mapOf (fun p => (s.pos p).state.hasId)
    ackMap := s.link.ackMap
    joinOpen := (s.modes.mode == .run || s.modes.mode == .test) && s.join.filters.any AcceptFilter.enable
    downlink := downlinkWord s.modes.mode s.seq.downlink
    offers := s.offerPlaces }

/-- The beacon is handed to the transmit interface: keyed in RUN and PARK, not transmitted in TEST, where the report that it
was sent is made at once (R25). -/
def State.sendBeacon (s : State) (b : Beacon) : State :=
  if s.modes.mode = .test then
    State.countOffers { s with seq := { s.seq with beacon := some b, txKey := false, txData := [] } } b.offers
  else { s with seq := { s.seq with beacon := some b, txKey := true, txData := b.bytes } }

/-- A frame starts under the mode in effect (R20 step 4, R21, R51); the work of its own end is due (R55). -/
def State.startFrame (s : State) : State :=
  let begun : State :=
    { s with joinWork := .due
             seq := { s.seq with frameNumber := s.seq.frameNumber + 1#32
                                 timer := .running (effectivePeriod s.modes.mode s.seq.period) } }
  (begun.setReoffers []).sendBeacon begun.buildBeacon

/-- The beacon's last byte has left: the key is released and the join controller told which offers it carried (R25, R52). -/
def State.beaconSent (s : State) : State :=
  if s.seq.txKey then
    State.countOffers { s with seq := { s.seq with txKey := false, txData := [] } }
      ((s.seq.beacon.map Beacon.offers).getD [])
  else s

/-- BEACON_SENT (R25, R52). With no beacon on the air there is none to have left (log entry 3). -/
def execBeaconSent (s : State) : Host.Outcome State Fault Refusal := .next s.beaconSent

/-- The heard map becomes the acknowledgement map; the heard map and all marks are cleared (R37). -/
def LinkReceiver.handOver (l : LinkReceiver) : LinkReceiver := { LinkReceiver.clear with ackMap := l.heardMap }

/-! ## The link receiver's checks 3 to 7 (R32 to R36) -/

/-- Where an arrival ends: the check that discards it, or acceptance (spec/02, the table of checks). -/
inductive Arrival where
  | slotKind
  | notAssigned
  | slotConflict
  | duplicate
  | queueFull
  | accepted
  deriving DecidableEq, Repr

/-- The join open flag of the running frame's beacon (R24, R32). -/
def State.joinOpen (s : State) : Bool := (s.seq.beacon.map Beacon.joinOpen).getD false

/-- Check 3, slot kind (R32). -/
def State.slotSuits (s : State) (t : Telegram) (slot : Nat) : Bool :=
  match t.kind with
  | .report => decide (1 ≤ slot ∧ slot ≤ 32)
  | .join => decide (33 ≤ slot ∧ slot ≤ 36) && s.joinOpen

/-- Check 5, duplicate (R34). -/
def State.duplicate (s : State) (t : Telegram) (slot : Nat) : Bool :=
  match t.kind with
  | .report => flagIn (slot - 1) s.link.wheelMarks
  | .join =>
      (s.link.joinMarks.get slot).elem t.id || decide (Config.joinMarks ≤ (s.link.joinMarks.get slot).length)

/-- Checks 3 to 7 in their order (spec/02). -/
def State.judgeArrival (s : State) (t : Telegram) (slot : Nat) : Arrival :=
  if !s.slotSuits t slot then .slotKind
  else if t.kind == .report && !(s.pos (slot - 1)).state.hasId then .notAssigned
  else if t.kind == .report && (s.pos (slot - 1)).sensorId != some t.id then .slotConflict
  else if s.duplicate t slot then .duplicate
  else if Config.queue ≤ s.queue.length then .queueFull
  else .accepted

/-- The record after the arrival of an accepted REPORT (R11). -/
def Position.heard (r : Position) (frame : FrameNo) (ch : Channel) : Position :=
  let w := { r.wheel with lastHeard := some frame, lastChannel := some ch }
  match r.state with
  | .offered => { r with state := .active, stateEntry := frame, offer := none, wheel := { w with history := [] } }
  | .active => { r with wheel := w }
  | _ => { r with state := .active, stateEntry := frame, wheel := w }

/-- The position table is told of an accepted REPORT (R11, R36 step 4); an offer is confirmed with BIND BOUND (R60). -/
def State.tellArrival (s : State) (p : Nat) (ch : Channel) : State :=
  let r := s.pos p
  let t := s.setPos p (r.heard s.seq.frameNumber ch)
  if r.state = .offered then t.queueNotice (.bind p r.sensorId .bound) 3 else t

/-- The marks an accepted telegram leaves (R36 steps 2 and 3). -/
def LinkReceiver.mark (l : LinkReceiver) (t : Telegram) (slot : Nat) : LinkReceiver :=
  match t.kind with
  | .report => { l with heardMap := flagAdd (slot - 1) l.heardMap, wheelMarks := flagAdd (slot - 1) l.wheelMarks }
  | .join => { l with joinMarks := l.joinMarks.add slot t.id }

/-- Check 7: the telegram is accepted (R36), and the idle engine takes it when all of that is made (R67, log entry 9). -/
def State.accept (s : State) (t : Telegram) (slot : Nat) (ch : Channel) : State :=
  let queued : State := { s with queue := s.queue ++ [⟨t, slot, ch, s.seq.frameNumber⟩], link := s.link.mark t slot }
  (match t.kind with
   | .report => queued.tellArrival (slot - 1) ch
   | .join => queued).runEngine

/-- An arrival is put to checks 3 to 7, with the effect of the check that decides it (R32 to R36). -/
def State.arrive (s : State) (t : Telegram) (slot : Nat) (ch : Channel) : State :=
  match s.judgeArrival t slot with
  | .slotConflict => s.raise .slotConflict
  | .queueFull => s.raise .rxOverrun
  | .accepted => s.accept t slot ch
  | .slotKind | .notAssigned | .duplicate => s

/-- The link receiver takes radio arrivals: a frame runs and the mode is RUN or PARK (R29). -/
def State.hears (s : State) : Bool := s.seq.timer != .stopped && (s.modes.mode == .run || s.modes.mode == .park)

/-- RADIO_ARRIVAL (R29 to R36). -/
def execRadioArrival (ch : Channel) (slot : Nat) (burst : List Byte) (s : State) : Host.Outcome State Fault Refusal :=
  .next (if s.hears then
      match integrity burst with
      | some (.telegram t) => s.arrive t slot ch
      | some (.beacon _) => s
      | none => s
    else s)

/-! ## INJECT (R38) -/

/-- INJECT's payload read: the channel, the slot and the telegram (R38, R176). -/
def injectOf : List Byte → Option (Channel × Nat × Telegram)
  | [c, slot, k, i3, i2, i1, i0, p1, p0, t, b, f] =>
      match channelOf c, telegramKindOf k with
      | some ch, some kind =>
          if 1 ≤ slot.toNat ∧ slot.toNat ≤ 36 ∧ b.toNat ≤ 7 then
            some (ch, slot.toNat,
              { kind := kind, id := read32 i3 i2 i1 i0, pressureCode := (read16 p1 p0).setWidth 12, temperatureCode := t
                battery := b.setWidth 3, flags := SensorFlags.ofByte f })
          else none
      | _, _ => none
  | _ => none

/-- The answer that reports an arrival's outcome (R38). -/
def arrivalAnswer (a : Arrival) (data : List Byte) : Answer :=
  match a with
  | .accepted => Answer.done data
  | .slotKind => Answer.refused .slotKind data
  | .notAssigned => Answer.refused .notAssigned data
  | .slotConflict => Answer.refused .slotConflict data
  | .duplicate => Answer.refused .duplicate data
  | .queueFull => Answer.refused .queueFull data

/-- INJECT's owner (R38). -/
def ownInject : Owner := fun payload s =>
  match injectOf payload with
  | some (ch, slot, t) =>
      (s.arrive t slot ch, arrivalAnswer (s.judgeArrival t slot) (bytes32 s.seq.frameNumber ++ [u8 slot]))
  | none => (s, Answer.refused .badArgument)

/-- INJECT (R38). -/
def execInject (payload : List Byte) (s : State) : Host.Outcome State Fault Refusal :=
  .next (s.commandFrame .inject ownInject payload)

/-! ## SET_LINK and SENSOR_MODE (R23, R27) -/

/-- SET_LINK's owner (R23). -/
def ownSetLink : Owner := fun payload s =>
  match payload with
  | [p, l, v1, v0] =>
      let period := clampNat 1 16 p.toNat
      let limit := clampNat 3 255 l.toNat
      ({ s with seq := { s.seq with period := period, silenceLimit := limit, vehicleCode := read16 v1 v0 } },
        Answer.doneOrClamped (period != p.toNat || limit != l.toNat) ([u8 period, u8 limit] ++ bytes16 (read16 v1 v0)))
  | _ => (s, Answer.refused .badLength)

/-- SET_LINK (R23). -/
def execSetLink (payload : List Byte) (s : State) : Host.Outcome State Fault Refusal :=
  .next (s.commandFrame .setLink ownSetLink payload)

/-- SENSOR_MODE's owner (R27). -/
def ownSensorMode : Owner := fun payload s =>
  match payload with
  | [b] =>
      match downlinkOf b with
      | some v => ({ s with seq := { s.seq with downlink := some v } }, Answer.done [v.code])
      | none => (s, Answer.refused .badArgument)
  | _ => (s, Answer.refused .badLength)

/-- SENSOR_MODE (R27). -/
def execSensorMode (payload : List Byte) (s : State) : Host.Outcome State Fault Refusal :=
  .next (s.commandFrame .sensorMode ownSensorMode payload)

end Sys2Proof.Machine
end

