-- ==== Sys2Proof/Machine/Modes.lean ====
section
/-! DEFINITION. The mode controller (spec/10), frame ends, the transmitter's message boundary, restarts and resets: SET_MODE,
RESTART, FRAME_END, MODE_CHANGE, MESSAGE_BOUNDARY, WARM_RESTART, COLD_RESET, RESET_RELEASE. -/

namespace Sys2Proof.Machine

/-! ## A change of mode (R77, R91, R160, R167, R168) -/

/-- The engine's history mark is set on an assessment in flight (R77). -/
def Engine.markHistory (e : Engine) : Engine :=
  match e with
  | .busy w => .busy { w with historyMark := true }
  | .idle => .idle

/-- A record with its history window emptied (R91). -/
def Position.emptyWindow (r : Position) : Position := { r with wheel := { r.wheel with history := [] } }

/-- Every history window is emptied at a change of mode, and an assessment in flight is marked (R91, R77). -/
def State.emptyWindows (s : State) : State :=
  { s with positions := s.positions.map Position.emptyWindow, engine := s.engine.markHistory }

/-- The host-silence timer and HOST_SILENT at a change of mode (R160). -/
def ControlPort.changeMode (c : ControlPort) (old new : Mode) : ControlPort :=
  if new = .config ∨ new = .test then { c with silenceTimer := false, hostSilent := false }
  else if old = .config ∨ old = .test then { c with silenceTimer := watchRuns new c.silenceLimit }
  else c

/-- The mode becomes `m` and the pending mode absent; the host-silence watch and LAMP follow (R160, R167, R168). -/
def State.enterMode (s : State) (m : Mode) : State :=
  State.judgeLamp { s with modes := { s.modes with mode := m, pending := none }, port := s.port.changeMode s.modes.mode m }

/-- The MODE notice of a change (R169). -/
def State.noticeMode (s : State) (m : Mode) : State := s.queueNotice (.mode m .command) 1

/-! ## Frame ends (R20, R53, R168) -/

/-- A record at a change to CONFIG (R13, R119): a heard position becomes ASSIGNED, the window and sub-records are cleared. -/
def Position.toConfig (frame : FrameNo) (r : Position) : Position :=
  let c := { r.emptyWindow with alarms := clearAlarms }
  match r.state with
  | .active | .missing => { c with state := .assigned, stateEntry := frame }
  | _ => c

/-- The frame timer stops and no frame is in hand (R20 step 3, R21). -/
def Sequencer.stop (q : Sequencer) : Sequencer := { q with timer := .stopped, beacon := none, txKey := false, txData := [] }

/-- A change to CONFIG takes effect at a frame end (R168): the withdrawal (R143), the position table (R13), the join
controller (R54), the link receiver (R37), the queue and engine (R77), the sequencer (R20), then the MODE notice. -/
def State.changeToConfig (s : State) : State :=
  let table : State :=
    { s.withdraw Notice.alarmOrReading with positions := s.positions.map (Position.toConfig s.seq.frameNumber) }
  let joined := table.joinToConfig
  let stopped : State :=
    { joined with link := LinkReceiver.clear, queue := [], engine := joined.engine.markHistory, seq := joined.seq.stop
                  joinWork := .due }
  (stopped.enterMode .config).noticeMode .config

/-- The position table's and the join controller's work at a frame end, in either order (R13, R53, R55). -/
def State.alongside (joinFirst : Bool) (s : State) : State :=
  if joinFirst then s.joinFrameEnd.silenceCheck else s.silenceCheck.joinFrameEnd

/-- The blocks' work at a frame end with no change to CONFIG (R13, R55, R37); the order of the first two is a free value
(log entry 7). -/
def State.frameEndWork (s : State) : State :=
  let worked := s.alongside Config.joinWorkFirst
  { worked with link := worked.link.handOver }

/-- A frame runs. -/
def State.frameRuns (s : State) : Bool := s.modes.mode != .config && s.seq.timer != .stopped

/-- The frame end (R20). A beacon has left before it (R25, log entry 6). -/
def State.frameEnd (s : State) : State :=
  match s.modes.pending with
  | some .config => s.beaconSent.changeToConfig
  | some m => ((s.beaconSent.frameEndWork.emptyWindows.enterMode m).noticeMode m).startFrame
  | none => s.beaconSent.frameEndWork.startFrame

/-- FRAME_END (R20). With the frame timer stopped there is no frame to end (log entry 3). -/
def execFrameEnd (s : State) : Host.Outcome State Fault Refusal := .next (if s.frameRuns then s.frameEnd else s)

/-- MODE_CHANGE (R168): the frame end at which a pending change takes effect (log entry 5). -/
def execModeChange (s : State) : Host.Outcome State Fault Refusal :=
  .next (if s.frameRuns && s.modes.pending.isSome then s.frameEnd else s)

/-! ## SET_MODE (R166, R167) -/

/-- A record on leaving CONFIG: an ASSIGNED position takes the new frame's number (R14). -/
def Position.reenter (frame : FrameNo) (r : Position) : Position :=
  if r.state = .assigned then { r with stateEntry := frame } else r

/-- Every ASSIGNED position takes the running frame's number as its state-entry frame (R14). -/
def State.reenterAssigned (s : State) : State := { s with positions := s.positions.map (Position.reenter s.seq.frameNumber) }

/-- A change out of CONFIG takes effect at once (R167). -/
def State.leaveConfig (s : State) (m : Mode) : State :=
  ((s.emptyWindows.enterMode m).startFrame.reenterAssigned).noticeMode m

/-- The mode in effect and the pending mode, SET_MODE's data (R166, R177). -/
def ModeController.bytes (m : ModeController) : List Byte := [m.mode.code, optCode Mode.code m.pending]

/-- SET_MODE's owner (R166). A refusal BUSY shows the mode in effect and the pending mode (R181), as R157 lets an owner's rule say.
DEDUCED (log entry 4): R181 goes before the list of exceptions in R177. -/
def ownSetMode : Owner := fun payload s =>
  match payload with
  | [b] =>
      match modeOf b with
      | none => (s, Answer.refused .badArgument)
      | some m =>
          if s.modes.pending.isSome then
            (s, Answer.refused .busy s.modes.bytes)
          else if m = s.modes.mode then (s, Answer.done s.modes.bytes)
          else if s.modes.mode = .config then
            if s.axles.any Axle.present then (s.leaveConfig m, Answer.done [m.code, 0x00#8])
            else (s, Answer.refused .notConfigured)
          else
            ({ s with modes := { s.modes with pending := some m } }, Answer.done [s.modes.mode.code, m.code])
  | _ => (s, Answer.refused .badLength)

/-- SET_MODE (R166). -/
def execSetMode (payload : List Byte) (s : State) : Host.Outcome State Fault Refusal :=
  .next (s.commandFrame .setMode ownSetMode payload)

/-! ## RESTART and the warm restart (R170) -/

/-- RESTART's owner: the restart takes effect when the reply has left (R170). -/
def ownRestart : Owner := fun _ s => (s, Answer.done [])

/-- RESTART (R170). -/
def execRestart (payload : List Byte) (s : State) : Host.Outcome State Fault Refusal :=
  .next (s.commandFrame .restart ownRestart payload)

/-- A record at a warm restart (R15). -/
def Position.warm (frame : FrameNo) (r : Position) : Position :=
  match r.state with
  | .absent => Position.emptied .absent r.stateEntry
  | .vacant => Position.emptied .vacant r.stateEntry
  | .learning | .offered => Position.emptied .vacant frame
  | .assigned | .active | .missing => { Position.emptied .assigned frame with sensorId := r.sensorId }

/-- The notice store at a warm restart: emptied, then MODE (CONFIG, WARM_RESTART), chosen at once (R149). -/
def NoticeStore.warm (st : NoticeStore) : NoticeStore :=
  NoticeStore.enter { st with entries := [], reply := .empty, transmitter := .idle, txd := [], attn := false }
    (.mode .config .warmRestart) 1

/-- The warm restart takes effect (R170). -/
def State.warmRestart (s : State) : State :=
  State.judgeLamp
    { s with
      seq := { s.seq.stop with downlink := none }
      link := LinkReceiver.clear
      join := { s.join with candidates := [], reoffers := [] }
      positions := s.positions.map (Position.warm s.seq.frameNumber)
      queue := []
      engine := .idle
      conds := { s.conds with set := 0#7 }
      store := s.store.warm
      port := { s.port with silenceTimer := false, hostSilent := false }
      modes := { s.modes with mode := .config, pending := none }
      joinWork := .due }

/-- The transmitter is sending the reply to an accepted RESTART (R170). -/
def State.sendsRestart (s : State) : Bool :=
  s.store.transmitter == .sendingReply && (match s.store.reply with
    | .holding r => r.restarts
    | _ => false)

/-- WARM_RESTART (R170): the boundary that ends the reply to RESTART. -/
def execWarmRestart (s : State) : Host.Outcome State Fault Refusal := .next (if s.sendsRestart then s.warmRestart else s)

/-! ## The message boundary (R145, R146) -/

/-- The last byte of a message has left: its place is freed and the next message chosen (R144, R145, R146). -/
def NoticeStore.boundary (st : NoticeStore) : NoticeStore :=
  match st.transmitter with
  | .idle => st
  | .sendingReply => NoticeStore.choose { st with reply := .empty }
  | .sendingNotice => (st.withEntries (st.entries.filter Entry.waits)).choose

/-- MESSAGE_BOUNDARY (R145). At the boundary that ends the reply to RESTART the warm restart takes its place (R149, R170).
With no message on the line none can have ended (log entry 3). -/
def execMessageBoundary (s : State) : Host.Outcome State Fault Refusal :=
  .next (if s.sendsRestart then s.warmRestart else { s with store := s.store.boundary })

/-! ## Cold reset (R171) -/

/-- COLD_RESET (R171). The events that are waiting are not the part's: they stay. -/
def execColdReset (s : State) : Host.Outcome State Fault Refusal := .next { State.coldReset with pending := s.pending }

/-- RESET_RELEASE (R171): the transmitter is idle and chooses the MODE notice at once. With RESET high there is nothing to
release (log entry 3). -/
def execResetRelease (s : State) : Host.Outcome State Fault Refusal :=
  .next (if s.resetLow then { s with resetLow := false, store := s.store.chooseIfIdle } else s)

end Sys2Proof.Machine
end

