-- ==== Sys2Proof/Machine/Table.lean ====
section
/-! DEFINITION. The position table's commands (spec/01): SET_AXLE and GET_WHEEL. -/

namespace Sys2Proof.Machine

/-! ## SET_AXLE (R3, R4) -/

/-- An axle entry in SET_AXLE's payload layout (R176, R177). -/
def Axle.bytes (number : Byte) (a : Axle) : List Byte :=
  [number, yesNo a.present, yesNo a.twin] ++ u16 a.nominalEmpty ++ u16 a.nominalLaden

/-- One position is brought into line with its axle entry (R4). -/
def State.fit (s : State) (p : Nat) : State :=
  if (s.pos p).state = .absent then
    if s.fitted p then s.enterEmpty p .vacant else s
  else if s.fitted p then s
  else s.enterEmpty p .absent

/-- The four positions of axle `a`, from 1 (R1). -/
def axlePositions (a : Nat) : List Nat := [4 * (a - 1), 4 * (a - 1) + 1, 4 * (a - 1) + 2, 4 * (a - 1) + 3]

/-- An axle entry is stored and its positions brought into line (R3 steps 4 and 5). -/
def State.storeAxle (s : State) (a : Nat) (entry : Axle) : State :=
  (axlePositions a).foldl State.fit { s with axles := s.axles.set (a - 1) entry }

/-- SET_AXLE's owner (R3). -/
def ownSetAxle : Owner := fun payload s =>
  match payload with
  | [a, present, twin, e1, e0, l1, l0] =>
      if 1 ≤ a.toNat ∧ a.toNat ≤ Config.axles then
        match yesNoOf present, yesNoOf twin with
        | some pr, some tw =>
            let e := (read16 e1 e0).toNat
            let l := (read16 l1 l0).toNat
            let entry : Axle := ⟨pr, tw, clampNat 100 4000 e, clampNat 100 4000 l⟩
            (s.storeAxle a.toNat entry,
              Answer.doneOrClamped (entry.nominalEmpty != e || entry.nominalLaden != l) (entry.bytes a))
        | _, _ => (s, Answer.refused .badArgument)
      else (s, Answer.refused .badArgument)
  | _ => (s, Answer.refused .badLength)

/-- SET_AXLE (R3). -/
def execSetAxle (payload : List Byte) (s : State) : Host.Outcome State Fault Refusal :=
  .next (s.commandFrame .setAxle ownSetAxle payload)

/-! ## GET_WHEEL (R17, R18, R178) -/

/-- An alarm sub-record in GET_WHEEL's data (R178). -/
def SubRecord.bytes (a : SubRecord) : List Byte :=
  [BitVec.ofNat 8 ((if a.active then 1 else 0) + (if a.pending then 2 else 0)), u8 a.count]

/-- A position record as GET_WHEEL returns it (R17, R178). -/
def Position.bytes (p : Nat) (r : Position) : List Byte :=
  [u8 p, r.state.code] ++ optField 4 bytes32 r.sensorId ++ bytes32 r.stateEntry ++ optField 4 bytes32 r.wheel.lastHeard ++
    [optCode channelCode r.wheel.lastChannel] ++ optField 2 u16 r.wheel.hotGauge ++ optField 2 u16 r.wheel.coldGauge ++
    optField 2 i16 r.wheel.temperature ++ optField 1 (fun b : BitVec 3 => [b.setWidth 8]) r.wheel.battery ++
    [r.wheel.flags.byte, u8 r.wheel.history.length] ++ optField 2 i16 r.wheel.lossRate ++ [r.wheel.lastConditions.byte] ++
    optField 5 (fun o : Offer => u8 o.remaining :: bytes32 o.candidate.id) r.offer ++ optField 1 (fun n : Nat => [u8 n]) r.learn ++
    (Kind.all.map (fun k => (r.alarms.get k).bytes)).flatten

/-- GET_WHEEL's owner (R17): the record is read whole when the command is taken (R18). -/
def ownGetWheel : Owner := fun payload s =>
  match payload with
  | [b] =>
      match indexOf b with
      | some p => (s, Answer.done ((s.pos p).bytes p))
      | none => (s, Answer.refused .badArgument)
  | _ => (s, Answer.refused .badLength)

/-- GET_WHEEL (R17). -/
def execGetWheel (payload : List Byte) (s : State) : Host.Outcome State Fault Refusal :=
  .next (s.commandFrame .getWheel ownGetWheel payload)

end Sys2Proof.Machine
end

