-- ==== Sys2Proof/Machine/Status.lean ====
section
/-! DEFINITION. The control port's own commands (spec/09): IDENTIFY, GET_STATUS, SET_PORT, and HOST_SILENCE_EXPIRY. -/

namespace Sys2Proof.Machine

/-- The bytes of "PARJUNT" (R162). -/
def vendorText : List Byte := [0x50#8, 0x41#8, 0x52#8, 0x4A#8, 0x55#8, 0x4E#8, 0x54#8]

/-- The bytes of "VH432" (R162). -/
def partText : List Byte := [0x56#8, 0x48#8, 0x34#8, 0x33#8, 0x32#8]

/-- IDENTIFY's data: the texts, the revision letter "C" and the capacities (R162, R177). -/
def identity : List Byte :=
  vendorText ++ partText ++ [0x43#8] ++
    [u8 Config.axles, u8 Config.positions, u8 Config.filters, u8 Config.candidates, u8 Config.queue, u8 Config.notices]

/-- IDENTIFY's owner (R162). -/
def ownIdentify : Owner := fun _ s => (s, Answer.done identity)

/-- IDENTIFY (R162). -/
def execIdentify (payload : List Byte) (s : State) : Host.Outcome State Fault Refusal :=
  .next (s.commandFrame .identify ownIdentify payload)

/-- The queue fill: the waiting entries, plus one while the engine is BUSY (R66). -/
def State.queueFill (s : State) : Nat := s.queue.length + (if s.engine = .idle then 0 else 1)

/-- The seven position states in the order of their codes. -/
def allPosStates : List PosState := [.absent, .vacant, .learning, .offered, .assigned, .active, .missing]

/-- The top pending alarm's five bytes (R121, R178). -/
def State.topAlarm (s : State) : List Byte :=
  match s.pendingAlarms.head? with
  | some (p, k) => [0x01#8, u8 p, k.code, u8 (s.kinds.get k).cls.val, yesNo ((s.pos p).alarms.get k).active]
  | none => List.replicate 5 0x00#8

/-- GET_STATUS's data (R163, R178). `silent` is HOST_SILENT as it stood when the command's frame completed. -/
def State.status (s : State) (silent : Bool) : List Byte :=
  s.modes.bytes ++ bytes32 s.seq.frameNumber ++ [s.modes.load.code, u8 s.config.ambient] ++
    allPosStates.map (fun x => u8 (s.countPositions (· == x))) ++
    [u8 s.join.candidates.length, u8 s.queueFill, u8 s.store.entries.length, condSetByte s.conds.set, condSetByte s.conds.mask,
     yesNo silent, yesNo s.lamp] ++ s.topAlarm

/-- GET_STATUS's owner (R163), with HOST_SILENT as it stood before the frame cleared it. -/
def ownGetStatus (silent : Bool) : Owner := fun _ s => (s, Answer.done (s.status silent))

/-- GET_STATUS (R163). -/
def execGetStatus (payload : List Byte) (s : State) : Host.Outcome State Fault Refusal :=
  .next (s.commandFrame .getStatus (ownGetStatus s.port.hostSilent) payload)

/-- SET_PORT's owner (R161, R160). -/
def ownSetPort : Owner := fun payload s =>
  match payload with
  | [b] =>
      let limit := clampNat 0 60 b.toNat
      ({ s with port := { s.port with silenceLimit := limit, silenceTimer := watchRuns s.modes.mode limit } },
        Answer.doneOrClamped (limit != b.toNat) [u8 limit])
  | _ => (s, Answer.refused .badLength)

/-- SET_PORT (R161). -/
def execSetPort (payload : List Byte) (s : State) : Host.Outcome State Fault Refusal :=
  .next (s.commandFrame .setPort ownSetPort payload)

/-- HOST_SILENCE_EXPIRY (R159). With the timer stopped there is nothing to expire (log entry 3). -/
def execHostSilenceExpiry (s : State) : Host.Outcome State Fault Refusal :=
  .next (if s.port.silenceTimer then
      State.judgeLamp { s with port := { s.port with silenceTimer := false, hostSilent := true } }
    else s)

end Sys2Proof.Machine
end

