-- ==== Sys2Proof/Machine/Frames.lean ====
section
/-! DEFINITION. Control frames byte by byte (spec/09): the receiver, the check of a complete frame, and the frames that are no
accepted command. -/

namespace Sys2Proof.Machine

/-- The owner of each command of the catalogue. `silent` is HOST_SILENT as it stood when the frame completed (R163). -/
def ownerOf (silent : Bool) : Command → Owner
  | .identify => ownIdentify
  | .getStatus => ownGetStatus silent
  | .setMode => ownSetMode
  | .restart => ownRestart
  | .setPort => ownSetPort
  | .setAxle => ownSetAxle
  | .setLimits => ownSetLimits
  | .setClass => ownSetClass
  | .setFilter => ownSetFilter
  | .setLink => ownSetLink
  | .setMask => ownSetMask
  | .setReadings => ownSetReadings
  | .ambient => ownAmbient
  | .load => ownLoad
  | .sensorMode => ownSensorMode
  | .learn => ownLearn
  | .bind => ownBind
  | .unbind => ownUnbind
  | .cancel => ownCancel
  | .getCandidates => ownGetCandidates
  | .getWheel => ownGetWheel
  | .getSummary => ownGetSummary
  | .ackAlarm => ownAckAlarm
  | .clearConditions => ownClearConditions
  | .inject => ownInject

/-- A good frame of any kind completes (R155, R156). -/
def State.anyFrame (s : State) (kind : Byte) (payload : List Byte) : State :=
  match Command.ofKind kind with
  | some c => s.commandFrame c (ownerOf s.port.hostSilent c) payload
  | none => s.unknownFrame kind

/-- The receiver is back in HUNT with no frame in assembly (R152, R153). -/
def State.abandon (s : State) : State := { s with port := { s.port with receiver := .hunt, gapTimer := false } }

/-- A complete frame is judged by its check (R154). -/
def State.judgeFrame (s : State) (length kind : Byte) (payload : List Byte) (check : BitVec 16) : State :=
  if crc16 (length :: kind :: payload) = check then s.anyFrame kind payload else s.abandon

/-- The receiver after a byte that leaves a frame in assembly; the byte-gap timer runs (R152). -/
def State.assemble (s : State) (r : Receiver) : State := { s with port := { s.port with receiver := r, gapTimer := true } }

/-- A byte is taken by the receiver (R152). -/
def State.takeByte (s : State) (b : Byte) : State :=
  match s.port.receiver with
  | .hunt => if b = 0xA5#8 then s.assemble .length else s
  | .length => if b.toNat ≤ Config.maxPayload then s.assemble (.kind b) else s.abandon
  | .kind l => if l = 0#8 then s.assemble (.checkHigh l b []) else s.assemble (.payload l b [])
  | .payload l k got =>
      if got.length + 1 = l.toNat then s.assemble (.checkHigh l k (got ++ [b])) else s.assemble (.payload l k (got ++ [b]))
  | .checkHigh l k p => s.assemble (.checkLow l k p b)
  | .checkLow l k p h => s.judgeFrame l k p (read16 h b)

/-- A byte arrives on RXD; while RESET is low it is lost (R152, R171). -/
def State.receiveByte (s : State) (b : Byte) : State := if s.resetLow then s else s.takeByte b

/-- CONTROL_BYTE_RECEIVED (R152). -/
def execControlByteReceived (b : Byte) (s : State) : Host.Outcome State Fault Refusal := .next (s.receiveByte b)

/-- FRAME_ABANDONED (R152): the byte arrives; in LENGTH a value of 251 to 255 abandons the frame (log entry 10). -/
def execFrameAbandoned (b : Byte) (s : State) : Host.Outcome State Fault Refusal := .next (s.receiveByte b)

/-- BYTE_GAP_EXPIRY (R153). With the timer stopped there is nothing to expire (log entry 3). -/
def execByteGapExpiry (s : State) : Host.Outcome State Fault Refusal := .next (if s.port.gapTimer then s.abandon else s)

/-- BAD_CHECK_FRAME (R154): a complete frame with the check it was received with. -/
def execBadCheckFrame (kind : Byte) (payload : List Byte) (check : BitVec 16) (s : State) :
    Host.Outcome State Fault Refusal :=
  .next (if s.resetLow then s else s.judgeFrame (u8 payload.length) kind payload check)

/-- UNKNOWN_COMMAND (R156 check 1): a good frame of the kind completes. -/
def execUnknownCommand (kind : Byte) (payload : List Byte) (s : State) : Host.Outcome State Fault Refusal :=
  .next (s.anyFrame kind payload)

/-- HOST_OVERRUN (R155): a good frame of the kind completes; a reply in the buffer discards it. -/
def execHostOverrun (kind : Byte) (payload : List Byte) (s : State) : Host.Outcome State Fault Refusal :=
  .next (s.anyFrame kind payload)

end Sys2Proof.Machine
end

