-- ==== Sys2Proof/Machine/Dispatch.lean ====
section
/-! DEFINITION. One arm per row of `spec/opcode_table.json`: each calls its meaning. -/

namespace Sys2Proof.Machine

/-- The effect of a command or event on everything but the queue of events. -/
def exec (i : Instr) (s : State) : Host.Outcome State Fault Refusal :=
  match i with
  | .identify payload => Sys2Proof.Machine.execIdentify payload s
  | .getStatus payload => Sys2Proof.Machine.execGetStatus payload s
  | .setMode payload => Sys2Proof.Machine.execSetMode payload s
  | .restart payload => Sys2Proof.Machine.execRestart payload s
  | .setPort payload => Sys2Proof.Machine.execSetPort payload s
  | .setAxle payload => Sys2Proof.Machine.execSetAxle payload s
  | .setLimits payload => Sys2Proof.Machine.execSetLimits payload s
  | .setClass payload => Sys2Proof.Machine.execSetClass payload s
  | .setFilter payload => Sys2Proof.Machine.execSetFilter payload s
  | .setLink payload => Sys2Proof.Machine.execSetLink payload s
  | .setMask payload => Sys2Proof.Machine.execSetMask payload s
  | .setReadings payload => Sys2Proof.Machine.execSetReadings payload s
  | .ambient payload => Sys2Proof.Machine.execAmbient payload s
  | .load payload => Sys2Proof.Machine.execLoad payload s
  | .sensorMode payload => Sys2Proof.Machine.execSensorMode payload s
  | .learn payload => Sys2Proof.Machine.execLearn payload s
  | .bind payload => Sys2Proof.Machine.execBind payload s
  | .unbind payload => Sys2Proof.Machine.execUnbind payload s
  | .cancel payload => Sys2Proof.Machine.execCancel payload s
  | .getCandidates payload => Sys2Proof.Machine.execGetCandidates payload s
  | .getWheel payload => Sys2Proof.Machine.execGetWheel payload s
  | .getSummary payload => Sys2Proof.Machine.execGetSummary payload s
  | .ackAlarm payload => Sys2Proof.Machine.execAckAlarm payload s
  | .clearConditions payload => Sys2Proof.Machine.execClearConditions payload s
  | .inject payload => Sys2Proof.Machine.execInject payload s
  | .unknownCommand kind payload => Sys2Proof.Machine.execUnknownCommand kind payload s
  | .hostOverrun kind payload => Sys2Proof.Machine.execHostOverrun kind payload s
  | .badCheckFrame kind payload check => Sys2Proof.Machine.execBadCheckFrame kind payload check s
  | .frameAbandoned length => Sys2Proof.Machine.execFrameAbandoned length s
  | .byteGapExpiry => Sys2Proof.Machine.execByteGapExpiry s
  | .hostSilenceExpiry => Sys2Proof.Machine.execHostSilenceExpiry s
  | .frameEnd => Sys2Proof.Machine.execFrameEnd s
  | .modeChange => Sys2Proof.Machine.execModeChange s
  | .silenceCheck => Sys2Proof.Machine.execSilenceCheck s
  | .offerExpiry => Sys2Proof.Machine.execOfferExpiry s
  | .learnExpiry => Sys2Proof.Machine.execLearnExpiry s
  | .ageOut => Sys2Proof.Machine.execAgeOut s
  | .beaconSent => Sys2Proof.Machine.execBeaconSent s
  | .radioArrival ch slot burst => Sys2Proof.Machine.execRadioArrival ch slot burst s
  | .assessmentStart => Sys2Proof.Machine.execAssessmentStart s
  | .reportCompletion => Sys2Proof.Machine.execReportCompletion s
  | .joinCompletion => Sys2Proof.Machine.execJoinCompletion s
  | .messageBoundary => Sys2Proof.Machine.execMessageBoundary s
  | .warmRestart => Sys2Proof.Machine.execWarmRestart s
  | .coldReset => Sys2Proof.Machine.execColdReset s
  | .resetRelease => Sys2Proof.Machine.execResetRelease s
  | .controlByteReceived b => Sys2Proof.Machine.execControlByteReceived b s

end Sys2Proof.Machine
end

