-- ==== Sys2Proof/Safety.lean ====
section
/-! DEFINITION. What a safe state is: the laws of the part that the manual states, as predicates on State. -/

namespace Sys2Proof.Machine

/-! ## Capacities (spec/00, capacities at a glance) -/

/-- A record's history window holds at most eight samples (R90). -/
def Position.windowFits (r : Position) : Bool := decide (r.wheel.history.length ≤ Config.window)

/-- The window captured by the assessment in flight holds at most eight samples (R69, R90). -/
def Engine.windowFits : Engine → Bool
  | .idle => true
  | .busy w =>
      match w.capture with
      | some c => decide (c.history.length ≤ Config.window)
      | none => true

/-- The running frame's beacon carries at most four offers (R51). -/
def Sequencer.offersFit (q : Sequencer) : Bool :=
  match q.beacon with
  | some b => decide (b.offers.length ≤ Config.offerPlaces)
  | none => true

/-- The frame in assembly has a payload of at most 250 bytes, and of the length its length byte says when it is whole (R151,
R152). -/
def Receiver.fits : Receiver → Bool
  | .hunt => true
  | .length => true
  | .kind l => decide (l.toNat ≤ Config.maxPayload)
  | .payload l _ got => decide (l.toNat ≤ Config.maxPayload ∧ got.length < l.toNat)
  | .checkHigh l _ p => decide (l.toNat ≤ Config.maxPayload ∧ p.length = l.toNat)
  | .checkLow l _ p _ => decide (l.toNat ≤ Config.maxPayload ∧ p.length = l.toNat)

/-- Every list of the part keeps its capacity: R1, R2, R40, R47, R50, R51, R64, R90, R137, R151, and R28, R34 for the join
marks. -/
def State.Capacities (s : State) : Prop :=
  s.positions.length = 32 ∧ s.axles.length = 8 ∧ s.join.filters.length = 4 ∧ s.join.candidates.length ≤ 8 ∧
    s.join.reoffers.length ≤ 4 ∧ s.join.reoffers.Nodup ∧ s.queue.length ≤ 6 ∧ s.store.entries.length ≤ 8 ∧
    s.link.joinMarks.slot33.length ≤ 4 ∧ s.link.joinMarks.slot34.length ≤ 4 ∧ s.link.joinMarks.slot35.length ≤ 4 ∧
    s.link.joinMarks.slot36.length ≤ 4 ∧ s.positions.all Position.windowFits = true ∧ s.engine.windowFits = true ∧
    s.seq.offersFit = true ∧ s.port.receiver.fits = true

/-! ## The output lines (R123, R147) -/

/-- LAMP is what R123 says, asserted in CONFIG and TEST, while HOST_SILENT is set, and while a class-2 kind is active or pending
anywhere; ATTN is what R147 says. -/
def State.LinesTrue (s : State) : Prop :=
  (s.lamp = true ↔ s.modes.mode = .config ∨ s.modes.mode = .test ∨ s.port.hostSilent = true ∨
    ∃ r ∈ s.positions, ∃ k ∈ Kind.all,
      (s.kinds.get k).cls = 2 ∧ ((r.alarms.get k).active = true ∨ (r.alarms.get k).pending = true)) ∧
  s.store.attn = !s.store.entries.isEmpty

/-! ## The transmitter (R144, R145, R146) -/

/-- The SENDING entries of the store. -/
def NoticeStore.sendingEntries (st : NoticeStore) : List Entry := st.entries.filter (fun e => !e.waits)

/-- The transmitter, the reply buffer, the SENDING entry and the frame on TXD belong together (R137, R144, R145). While
RESET is low the MODE notice waits for the release (R171). -/
def State.TransmitterSound (s : State) : Prop :=
  match s.store.transmitter with
  | .idle => s.store.reply = .empty ∧ s.store.sendingEntries = [] ∧ s.store.txd = [] ∧ (s.resetLow ∨ s.store.entries = [])
  | .sendingReply => s.store.sendingEntries = [] ∧ ∃ r, s.store.reply = .holding r ∧ s.store.txd = r.frame
  | .sendingNotice =>
      s.store.reply ≠ .forming ∧ ∃ e, s.store.sendingEntries = [e] ∧ s.store.txd = e.notice.frame

/-! ## Ranges (R2, R5, R9, R19, R65, R69, R80, R103, R137, R150) -/

/-- Absent, or a number within a range. -/
def natWithin (lo hi : Nat) : Option Nat → Bool
  | some n => decide (lo ≤ n ∧ n ≤ hi)
  | none => true

/-- Absent, or an integer within a range. -/
def intWithin (lo hi : Int) : Option Int → Bool
  | some n => decide (lo ≤ n ∧ n ≤ hi)
  | none => true

/-- The cold gauges of a history window lie in 0 to 4000 kPa (R5, R90). -/
def windowInRange (w : List Sample) : Bool := w.all (fun x => decide (x.cold ≤ 4000))

/-- The measurements, the history window and the two counts of a record lie in the ranges of R5 and R9. -/
def Position.inRange (r : Position) : Bool :=
  natWithin 0 4044 r.wheel.hotGauge && natWithin 0 4000 r.wheel.coldGauge && intWithin (-50) 204 r.wheel.temperature &&
    intWithin (-999) 999 r.wheel.lossRate && windowInRange r.wheel.history && natWithin 0 6 (r.offer.map Offer.remaining) &&
    natWithin 0 150 r.learn

/-- The limits lie in the ranges of R80 and are consistent (R83). -/
def Limits.inRange (l : Limits) : Bool :=
  decide (l.tref ≤ 40 ∧ 1 ≤ l.lowWarnPct ∧ l.lowWarnPct ≤ 50 ∧ 2 ≤ l.lowAlarmPct ∧ l.lowAlarmPct ≤ 80 ∧
    l.lowWarnPct < l.lowAlarmPct ∧ 1 ≤ l.highWarnPct ∧ l.highWarnPct ≤ 50 ∧ l.hysteresis ≤ 100 ∧ 40 ≤ l.hotWarn ∧
    l.hotWarn ≤ 150 ∧ 41 ≤ l.hotAlarm ∧ l.hotAlarm ≤ 180 ∧ l.hotWarn < l.hotAlarm ∧ 1 ≤ l.leak ∧ l.leak ≤ 200 ∧
    10 ≤ l.dual ∧ l.dual ≤ 400 ∧ 10 ≤ l.interval ∧ l.interval ≤ 255)

/-- The ambient lies in 50 to 110 kPa (R80). -/
def ambientInRange (a : Nat) : Bool := decide (50 ≤ a ∧ a ≤ 110)

/-- The nominals of an axle entry lie in 100 to 4000 kPa (R2). -/
def Axle.inRange (a : Axle) : Bool :=
  decide (100 ≤ a.nominalEmpty ∧ a.nominalEmpty ≤ 4000 ∧ 100 ≤ a.nominalLaden ∧ a.nominalLaden ≤ 4000)

/-- An effective frame period lies in 1 to 128 s (R19, R20). -/
def periodInRange (n : Nat) : Bool := decide (1 ≤ n ∧ n ≤ 128)

/-- The silence limit lies in 3 to 255 frames (R19). -/
def silenceLimitInRange (n : Nat) : Bool := decide (3 ≤ n ∧ n ≤ 255)

/-- A queue entry's slot lies in 1 to 36 (R65). -/
def QueueEntry.inRange (e : QueueEntry) : Bool := decide (1 ≤ e.slot ∧ e.slot ≤ 36)

/-- Every captured value lies in the range of what it was captured from (R69). -/
def Capture.inRange (c : Capture) : Bool :=
  ambientInRange c.ambient && c.limits.inRange && periodInRange c.period && silenceLimitInRange c.silenceLimit &&
    c.axle.inRange && windowInRange c.history &&
    (match c.partner with
     | some q => natWithin 0 4000 q.coldGauge
     | none => true)

/-- The entry in flight and its captured values lie in their ranges (R65, R69). -/
def Engine.inRange : Engine → Bool
  | .idle => true
  | .busy w =>
      w.entry.inRange &&
        (match w.capture with
         | some c => c.inRange
         | none => true)

/-- A kind's confirm count lies in 1 to 4, and MISSING has none (R103). -/
def KindSetting.inRange (k : Kind) (x : KindSetting) : Bool :=
  if k = .missing then x.confirm.isNone else natWithin 1 4 x.confirm && x.confirm.isSome

/-- The stored downlink word never holds PARK (R19, R27). -/
def storedWordAllowed (w : Option DownlinkValue) : Bool := w != some .park

/-- A notice stands in the store with a priority number of its kind (R137). -/
def Entry.priorityFits (e : Entry) : Bool :=
  match e.notice with
  | .alarm .. => e.priority == 0 || e.priority == 2
  | .mode .. => e.priority == 1
  | .bind .. => e.priority == 3
  | .condition .. => e.priority == 4
  | .candidate .. => e.priority == 5
  | .reading .. => e.priority == 7

/-- The frame timer is stopped, or runs with an effective period (R19, R20). -/
def FrameTimer.inRange : FrameTimer → Bool
  | .stopped => true
  | .running n => periodInRange n

/-- Every value that a table of the manual bounds lies in its range: the records and their windows and counts (R5, R9), the
axle plan (R2), the limits and the ambient (R80), the queue entries (R65), the assessment in flight with all its captured
values (R69), the kind settings (R103), the frame sequencer (R19), the priority numbers (R137) and the host-silence limit
(R150). The disagree counts are bounded by `State.CountsBelow`. -/
def State.InRange (s : State) : Prop :=
  s.positions.all Position.inRange = true ∧ s.axles.all Axle.inRange = true ∧ s.config.limits.inRange = true ∧
    ambientInRange s.config.ambient = true ∧ s.queue.all QueueEntry.inRange = true ∧ s.engine.inRange = true ∧
    (∀ k, (s.kinds.get k).inRange k = true) ∧ 1 ≤ s.seq.period ∧ s.seq.period ≤ 16 ∧ s.seq.timer.inRange = true ∧
    silenceLimitInRange s.seq.silenceLimit = true ∧ storedWordAllowed s.seq.downlink = true ∧
    s.store.entries.all Entry.priorityFits = true ∧ s.port.silenceLimit ≤ 60

/-! ## Bindings (R6, R9, R47, R56) and the life of a mode (R119, R165) -/

/-- A record's fields suit its state: R6, R9, and the clear sub-records of R119. -/
def Position.suits (r : Position) : Bool :=
  (r.sensorId.isSome == r.state.hasId) &&
    (match r.offer with
     | some o => r.state == .offered && r.sensorId == some o.candidate.id && decide (o.remaining ≤ Config.offerBeacons)
     | none => r.state != .offered) &&
    (match r.learn with
     | some n => r.state == .learning && decide (1 ≤ n ∧ n ≤ Config.learnFrames)
     | none => r.state != .learning) &&
    (r.state.bound || r.alarms == clearAlarms)

/-- The sensor IDs that positions hold. -/
def State.heldIds (s : State) : List SensorId := s.positions.filterMap Position.sensorId

/-- The laws of the bindings: each record suits its state, no ID is held twice (R6), no candidate is listed twice or held by
a position (R47), at most four positions are pending and at most one of them learns (R56). -/
def State.BindingsSound (s : State) : Prop :=
  s.positions.length = 32 ∧ s.positions.all Position.suits = true ∧ s.heldIds.Nodup ∧
    (s.join.candidates.map Candidate.id).Nodup ∧ (∀ c ∈ s.join.candidates, c.id ∉ s.heldIds) ∧
    s.countPositions PosState.pendingBind ≤ 4 ∧ s.countPositions (· == .learning) ≤ 1

/-- In CONFIG no frame runs, nothing is pending, no telegram waits, both join lists are empty, no position is LEARNING,
OFFERED, ACTIVE or MISSING, every sub-record is clear, the host-silence watch is stopped, no frame end's work is half made
(the model's own field, log entry 5); in every other mode a frame runs (R13, R20, R54, R77, R119, R160). -/
def State.ModeSound (s : State) : Prop :=
  if s.modes.mode = .config then
    s.seq.timer = .stopped ∧ s.modes.pending = none ∧ s.queue = [] ∧ s.join.candidates = [] ∧ s.join.reoffers = [] ∧
      s.link = LinkReceiver.clear ∧ s.port.silenceTimer = false ∧ s.port.hostSilent = false ∧ s.seq.txKey = false ∧
      s.joinWork = .due ∧
      ∀ r ∈ s.positions, (r.state = .absent ∨ r.state = .vacant ∨ r.state = .assigned) ∧ r.alarms = clearAlarms ∧
        r.wheel.history = []
  else s.seq.timer = .running (effectivePeriod s.modes.mode s.seq.period) ∧ s.resetLow = false

/-- A disagree count is below its kind's confirm count, and 0 for MISSING (R105). -/
def countBelow (k : Kind) (x : KindSetting) (a : SubRecord) : Bool :=
  match x.confirm with
  | some c => if k = .missing then a.count == 0 else decide (a.count < c)
  | none => a.count == 0

/-- Every disagree count is below the confirm count of its kind (R105). -/
def State.CountsBelow (s : State) : Prop :=
  ∀ r ∈ s.positions, ∀ k, countBelow k (s.kinds.get k) (r.alarms.get k) = true

/-- Whenever the engine is IDLE the queue is empty (R67). -/
def State.EngineEager (s : State) : Prop := s.engine = .idle → s.queue = []

/-- A position is ABSENT exactly when it is unfitted (R1, R4). -/
def State.FittedExactly (s : State) : Prop :=
  s.positions.length = 32 ∧ s.axles.length = 8 ∧ ∀ p < 32, (s.pos p).state = .absent ↔ s.fitted p = false

/-- At most one READING notice WAITS for any one position (R137). -/
def State.ReadingsSingle (s : State) : Prop :=
  s.store.entries.Pairwise (fun a b => ¬(a.waits = true ∧ b.waits = true ∧ a.notice.replaces b = true))

/-! ## Commands as a host sees them (R151, R155, R157) -/

/-- The row of a catalogue command, with the payload of its frame (R151, R176). -/
def Command.instr : Command → List Byte → Instr
  | .identify => .identify
  | .getStatus => .getStatus
  | .setMode => .setMode
  | .restart => .restart
  | .setPort => .setPort
  | .setAxle => .setAxle
  | .setLimits => .setLimits
  | .setClass => .setClass
  | .setFilter => .setFilter
  | .setLink => .setLink
  | .setMask => .setMask
  | .setReadings => .setReadings
  | .ambient => .ambient
  | .load => .load
  | .sensorMode => .sensorMode
  | .learn => .learn
  | .bind => .bind
  | .unbind => .unbind
  | .cancel => .cancel
  | .getCandidates => .getCandidates
  | .getWheel => .getWheel
  | .getSummary => .getSummary
  | .ackAlarm => .ackAlarm
  | .clearConditions => .clearConditions
  | .inject => .inject

/-- Events taken one after the other. -/
def runEvents : List Instr → State → Host.Outcome State Fault Refusal
  | [], s => .next s
  | i :: rest, s =>
      match exec i s with
      | .next t => runEvents rest t
      | .fault r => .fault r
      | .refused r => .refused r

/-- The part can take a command: RESET is high and the reply buffer is empty (R155, R171). -/
def State.Ready (s : State) : Prop := s.resetLow = false ∧ s.store.reply = .empty

/-- What a good frame alone does: the receiver is in HUNT, HOST_SILENT is clear, the host-silence timer runs if the watch
does, and LAMP is judged (R152, R160, R123). -/
def State.framed (s : State) : State :=
  { s with
    port := { s.port with receiver := .hunt, gapTimer := false, hostSilent := false
                          silenceTimer := watchRuns s.modes.mode s.port.silenceLimit }
    lamp := s.modes.mode == .config || s.modes.mode == .test || s.positions.any (Position.lights s.kinds) }

/-- The store once a reply has entered the reply buffer: an idle transmitter sends it at once, a busy one goes on (R144). -/
def NoticeStore.replied (st : NoticeStore) (kind : Byte) (a : Answer) : NoticeStore :=
  { st with
    reply := .holding ⟨kind, a⟩
    transmitter := if st.transmitter = .idle then .sendingReply else st.transmitter
    txd := if st.transmitter = .idle then Reply.frame ⟨kind, a⟩ else st.txd }

/-- A good frame whose command is answered, and does nothing else. -/
def State.replied (s : State) (kind : Byte) (a : Answer) : State := { s.framed with store := s.store.replied kind a }

/-- The state in which a command's owner works: the good frame has been counted, the reply buffer is occupied (R155). -/
def State.taking (s : State) : State := { s.framed with store := { s.store with reply := .forming } }

/-! ## A sub-record at a completion (R107 to R109, R111 to R114) -/

/-- What becomes of a sub-record at a completion, from the kind's settings and its verdict: held without a verdict; on an
agreeing verdict the count is 0 and an acknowledged active LEVEL kind is pending again; on the disagreeing verdict that
completes the confirm count the active value turns over, and a kind that becomes active is pending. -/
def SubRecord.judged (x : KindSetting) (k : Kind) (a : SubRecord) : Option Verdict → SubRecord
  | none => a
  | some v =>
      if (if a.active then !v.clears else v.raises) = a.active then
        ⟨a.active, a.pending || (a.active && x.type == .level && k != .missing), 0⟩
      else if k = .missing ∨ x.confirm = none ∨ x.confirm = some (a.count + 1) then
        ⟨!a.active, a.pending || !a.active, 0⟩
      else ⟨a.active, a.pending, a.count + 1⟩

/-- The event of which a sub-record's kind gives notice at a completion (R111, R112, R114): the kind becomes active, an
acknowledged LEVEL kind is raised again, or the kind becomes inactive. -/
def SubRecord.event (x : KindSetting) (k : Kind) (a : SubRecord) : Option Verdict → Option AlarmEvent
  | none => none
  | some v =>
      if (if a.active then !v.clears else v.raises) = a.active then
        if a.active && !a.pending && x.type == .level && k != .missing then some .reRaised else none
      else if k = .missing ∨ x.confirm = none ∨ x.confirm = some (a.count + 1) then
        some (if a.active then .cleared else .raised)
      else none

/-- The ALARM notice of an event with its priority number; a kind of class 0 gives none (R111, R115, R138). -/
def alarmOfClass (cls : Fin 3) (n : Notice) : Option (Notice × Nat) :=
  if cls = 0 then none else some (n, if cls = 2 then 0 else 2)

/-- What a store shows of its entries: each with its notice and its priority number, the oldest first (R137). -/
def NoticeStore.shown (st : NoticeStore) : List (Notice × Nat) := st.entries.map (fun e => (e.notice, e.priority))

/-- The waiting CONDITION notice that raising a condition adds to a store with room (R128, R129). -/
def State.conditionNotice (s : State) (c : Condition) : List (Notice × Nat) :=
  if condIn c s.conds.set || condIn c s.conds.mask then [] else [(.condition c s.seq.frameNumber, 4)]

/-! ## The end of a frame (R13, R49, R55) -/

/-- Position `p` is silent at the end of the running frame (R13). -/
def State.fallsSilent (s : State) (p : Nat) : Bool :=
  match (s.pos p).state, (s.pos p).wheel.lastHeard with
  | .active, some f => decide (s.seq.silenceLimit ≤ (s.seq.frameNumber - f).toNat)
  | .assigned, _ => decide (s.seq.silenceLimit ≤ (s.seq.frameNumber - (s.pos p).stateEntry).toNat)
  | _, _ => false

/-- Position `p`'s offer has run out, and the offer expiries of this frame end are still to be made (R55 step 2). -/
def State.offerEnds (s : State) (p : Nat) : Bool :=
  (s.joinWork == .due || s.joinWork == .agedOut) && (s.pos p).state == .offered &&
    (match (s.pos p).offer with
     | some f => f.remaining == 0
     | none => false)

/-- Position `p`'s learn runs out at this frame end's countdown, which is still to be made (R55 step 3). -/
def State.learnEnds (s : State) (p : Nat) : Bool :=
  s.joinWork != .learnsCounted && (s.pos p).state == .learning &&
    (match (s.pos p).learn with
     | some n => decide (n ≤ 1)
     | none => false)

/-- The learn record of a LEARNING position counted down by one, when the countdown is still to be made (R55 step 3). -/
def State.learnCounted (s : State) (p : Nat) : Position :=
  if s.joinWork != .learnsCounted && (s.pos p).state == .learning then
    { s.pos p with learn := (s.pos p).learn.map (fun n => n - 1) }
  else s.pos p

/-- The record of position `p` after the work of a frame end with no change to CONFIG: VACANT where an offer or a learn ran
out, MISSING where the position was silent, counted down where it learns, and otherwise kept (R13, R55, R110). -/
def State.recordAtEnd (s : State) (p : Nat) : Position :=
  if s.offerEnds p || s.learnEnds p then Position.emptied .vacant s.seq.frameNumber
  else if s.fallsSilent p then
    { s.pos p with
      state := .missing, stateEntry := s.seq.frameNumber
      alarms := if ((s.pos p).alarms.get .missing).active then (s.pos p).alarms
        else (s.pos p).alarms.put .missing ⟨true, true, 0⟩ }
  else s.learnCounted p

/-- The candidates that this frame end's age-out keeps, when it is still to be made (R49). -/
def State.young (s : State) : List Candidate :=
  if s.joinWork = .due then s.join.candidates.filter (fun c => decide ((s.seq.frameNumber - c.lastHeard).toNat < 30))
  else s.join.candidates

/-- The candidates that the offers run out at this frame end return, in position index order (R48, R55). -/
def State.returned (s : State) : List Candidate :=
  allPositions.filterMap (fun p => if s.offerEnds p then (s.pos p).offer.map Offer.candidate else none)

/-- The BIND notices of the offer expiries (R55 step 2). -/
def State.offerNotices (s : State) : List (Notice × Nat) :=
  (allPositions.filter s.offerEnds).map (fun p => (.bind p (s.pos p).sensorId .failedTimeout, 3))

/-- The BIND notices of the learn expiries (R55 step 3). -/
def State.learnNotices (s : State) : List (Notice × Nat) :=
  (allPositions.filter s.learnEnds).map (fun p => (.bind p none .failedTimeout, 3))

/-- The ALARM notices of the silence check: MISSING RAISED where the kind was not active (R110, R111, R115). -/
def State.silenceNotices (s : State) : List (Notice × Nat) :=
  allPositions.filterMap (fun p =>
    if s.fallsSilent p && !((s.pos p).alarms.get .missing).active then
      alarmOfClass (s.kinds.get .missing).cls
        (.alarm p .missing .raised s.seq.frameNumber (s.pos p).wheel.coldGauge (s.pos p).wheel.temperature)
    else none)

/-- The entries that stay when the waiting ALARM and READING notices of some positions are withdrawn (R12, R143). -/
def NoticeStore.entriesWithout (st : NoticeStore) (gone : Nat → Bool) : List Entry :=
  st.entries.filter (fun e => !(e.waits && allPositions.any (fun p => gone p && e.notice.alarmOrReadingFor p)))

/-- The same as the store shows them. -/
def NoticeStore.shownWithout (st : NoticeStore) (gone : Nat → Bool) : List (Notice × Nat) :=
  (st.entriesWithout gone).map (fun e => (e.notice, e.priority))

/-- The engine with the void mark set when its REPORT in flight is for one of some positions (R76). -/
def Engine.voidedFor (e : Engine) (gone : Nat → Bool) : Engine :=
  match e with
  | .idle => .idle
  | .busy w => .busy { w with voidMark := w.voidMark ||
      (w.entry.telegram.kind == .report && decide (1 ≤ w.entry.slot ∧ w.entry.slot ≤ 32) && gone (w.entry.slot - 1)) }

/-- The four offer places: the OFFERED positions in position index order, then each re-offer that a bound position holds, oldest
first (R51). -/
def State.offersWith (s : State) (reoffers : List SensorId) : List OfferEntry :=
  let own := allPositions.filterMap (fun p =>
    if (s.pos p).state = .offered then (s.pos p).sensorId.map (fun id => (⟨p + 1, id, true⟩ : OfferEntry)) else none)
  let again := reoffers.filterMap (fun id =>
    (allPositions.find? (fun p => decide ((s.pos p).state ∈ [.assigned, .active, .missing] ∧ (s.pos p).sensorId = some id))).map
      (fun p => (⟨p + 1, id, false⟩ : OfferEntry)))
  (own ++ again).take 4

/-- An idle transmitter leaves no notice behind: a part of `State.TransmitterSound` while RESET is high. -/
def NoticeStore.served (st : NoticeStore) : Prop := st.transmitter = .idle → st.entries = []

/-! ## The sensors' side of the link (R174) -/

/-- The telegram a sensor sends, with any value in the reserved bits (R174). -/
def Telegram.burst (t : Telegram) (reserved : BitVec 1) (high : BitVec 5) : List Byte :=
  let body : List Byte :=
    [match t.kind with
     | .report => 0x3C#8
     | .join => 0x3D#8] ++ bytes32 t.id ++
    [t.pressureCode.extractLsb' 4 8, t.pressureCode.extractLsb' 0 4 ++ reserved ++ t.battery, t.temperatureCode,
     high ++ BitVec.ofBool t.flags.fault ++ BitVec.ofBool t.flags.fastLoss ++ BitVec.ofBool t.flags.trigger]
  body ++ [crc8 body]

end Sys2Proof.Machine
end

