-- ==== Sys2Proof/Certificates/Slice0/Obligations.lean ====
section
/-! DEFINITION. The statements for the provers. Each is about every state that meets its hypotheses, reached by a run or not. -/

open Sys2Proof Sys2Proof.Machine

/-! ## The machine -/

/-- A step takes the event at the front of the queue and runs it on the state with the queue's rest; on an empty queue the
part idles (log entry 2). -/
def Obligations.StepRunsFrontEvent : Prop :=
  (∀ (c : Instr) (rest : List Instr) (s : State), step { s with pending := c :: rest } = exec c { s with pending := rest }) ∧
  (∀ s : State, s.pending = [] → step s = .next s)

/-- No event stops the part, and none touches the events that are waiting. The model's choices: the queue of waiting events
is the model's own (log entry 2) and even a cold reset leaves it (log entry 16), and an event that cannot occur in a state
goes on with that state unchanged (log entry 3). -/
def Obligations.EveryEventCompletes : Prop :=
  ∀ (c : Instr) (s : State), ∃ t, exec c s = .next t ∧ t.pending = s.pending

/-- A cold reset brings every state to the cold state, which no event but the release moves; the release makes it the reset
state (R171). The model's choices: the waiting events stay (log entry 16), the release is the point after which the part
runs (log entry 1), and with RESET high there is nothing to release (log entry 3). -/
def Obligations.ColdResetHoldsUntilRelease : Prop :=
  (∀ s : State, exec .coldReset s = .next { State.coldReset with pending := s.pending }) ∧
  (∀ (c : Instr) (q : List Instr), c ≠ .resetRelease →
    exec c { State.coldReset with pending := q } = .next { State.coldReset with pending := q }) ∧
  (∀ q : List Instr, exec .resetRelease { State.coldReset with pending := q } = .next { State.reset with pending := q }) ∧
  (∀ s : State, s.resetLow = false → exec .resetRelease s = .next s)

/-- What a cold reset leaves in every block (R171 and the rules it gathers). The bytes on TXD, the queue of events and the
level of RESET are not part of the table and not stated. -/
def Obligations.ColdResetValues : Prop :=
  ∀ s : State, ∃ t, exec .coldReset s = .next t ∧
    t.modes = ⟨.config, none, .empty⟩ ∧
    (t.seq.frameNumber = 0#32 ∧ t.seq.timer = .stopped ∧ t.seq.period = 4 ∧ t.seq.silenceLimit = 10 ∧
      t.seq.vehicleCode = 0#16 ∧ t.seq.downlink = none ∧ t.seq.txKey = false) ∧
    t.axles = List.replicate 8 ⟨false, false, 600, 600⟩ ∧
    (t.positions.length = 32 ∧ ∀ r ∈ t.positions, r.state = .absent ∧ r.sensorId = none ∧ r.stateEntry = 0#32 ∧
      r.offer = none ∧ r.learn = none ∧ r.wheel = ⟨none, none, none, none, none, none, ⟨false, false, false⟩, [], none, ⟨false, false⟩⟩ ∧
      ∀ k, r.alarms.get k = ⟨false, false, 0⟩) ∧
    (t.link.heardMap = 0#32 ∧ t.link.wheelMarks = 0#32 ∧ t.link.ackMap = 0#32 ∧ ∀ n, t.link.joinMarks.get n = []) ∧
    t.join = ⟨List.replicate 4 ⟨0#32, 0#32, false⟩, [], []⟩ ∧
    t.queue = [] ∧ t.engine = .idle ∧
    t.config = ⟨101, ⟨20, 10, 20, 15, 10, 85, 100, 25, 70, 60⟩⟩ ∧
    (t.kinds.get .lowAlarm = ⟨2, .level, some 2⟩ ∧ t.kinds.get .hotAlarm = ⟨2, .level, some 1⟩ ∧
      t.kinds.get .missing = ⟨2, .level, none⟩ ∧ t.kinds.get .lowWarn = ⟨1, .level, some 2⟩ ∧
      t.kinds.get .hotWarn = ⟨1, .edge, some 2⟩ ∧ t.kinds.get .leak = ⟨1, .edge, some 2⟩ ∧
      t.kinds.get .dualImbalance = ⟨1, .edge, some 2⟩ ∧ t.kinds.get .highWarn = ⟨1, .edge, some 3⟩ ∧
      t.kinds.get .sensorFault = ⟨1, .edge, some 1⟩ ∧ t.kinds.get .batteryLow = ⟨1, .edge, some 1⟩) ∧
    (t.conds.set = 0#7 ∧ ∀ c, condIn c t.conds.mask = decide (c = .clamped)) ∧
    (t.store.entries = [⟨.mode .config .coldReset, 1, .waiting⟩] ∧ t.store.reply = .empty ∧ t.store.transmitter = .idle ∧
      t.store.readings = false ∧ t.store.attn = true) ∧
    t.port = ⟨.hunt, false, 0, false, false⟩ ∧ t.lamp = true

/-! ## Control port -/

/-- The bytes of a control frame, one after the other, do what the row of the whole frame does: a command's row for a frame
of the catalogue, UNKNOWN_COMMAND for another kind, BAD_CHECK_FRAME for any check that does not match. The rows of whole
frames are the model's reading of the table (log entry 10). -/
def Obligations.FrameBytesTakeTheCommand : Prop :=
  ∀ (s : State) (payload : List Byte), s.resetLow = false → s.port.receiver = .hunt → payload.length ≤ 250 →
    (∀ c : Command, runEvents ((controlFrame c.code payload).map .controlByteReceived) s = exec (c.instr payload) s) ∧
    (∀ kind : Byte, Command.ofKind kind = none →
      runEvents ((controlFrame kind payload).map .controlByteReceived) s = exec (.unknownCommand kind payload) s) ∧
    (∀ (kind : Byte) (check : BitVec 16), crc16 (u8 payload.length :: kind :: payload) ≠ check →
      runEvents (([0xA5#8, u8 payload.length, kind] ++ payload ++ bytes16 check).map .controlByteReceived) s =
        exec (.badCheckFrame kind payload check) s)

/-- The receiver's six states byte by byte, the byte-gap timer's expiry, a frame whose check does not match, and the
host-silence timer's expiry: what each does, and that it does nothing else. That a timer that does not run has no expiry,
and that the frame rows end any assembly, are the model's choices (log entries 3 and 10). -/
def Obligations.PortBytesAndTimers : Prop :=
  ∀ s : State, s.resetLow = false →
    (∀ b : Byte, s.port.receiver = .hunt → b ≠ 0xA5#8 → exec (.controlByteReceived b) s = .next s) ∧
    (s.port.receiver = .hunt → exec (.controlByteReceived 0xA5#8) s =
      .next { s with port := { s.port with receiver := .length, gapTimer := true } }) ∧
    (∀ b : Byte, s.port.receiver = .length → b.toNat ≤ 250 → exec (.controlByteReceived b) s =
      .next { s with port := { s.port with receiver := .kind b, gapTimer := true } }) ∧
    (∀ b : Byte, s.port.receiver = .length → 251 ≤ b.toNat → exec (.frameAbandoned b) s =
      .next { s with port := { s.port with receiver := .hunt, gapTimer := false } }) ∧
    (∀ b : Byte, exec (.frameAbandoned b) s = exec (.controlByteReceived b) s) ∧
    (∀ l b : Byte, s.port.receiver = .kind l → exec (.controlByteReceived b) s =
      .next { s with port := { s.port with
        receiver := if l = 0#8 then .checkHigh l b [] else .payload l b [], gapTimer := true } }) ∧
    (∀ (l k b : Byte) (got : List Byte), s.port.receiver = .payload l k got → exec (.controlByteReceived b) s =
      .next { s with port := { s.port with
        receiver := if got.length + 1 = l.toNat then .checkHigh l k (got ++ [b]) else .payload l k (got ++ [b])
        gapTimer := true } }) ∧
    (∀ (l k b : Byte) (p : List Byte), s.port.receiver = .checkHigh l k p → exec (.controlByteReceived b) s =
      .next { s with port := { s.port with receiver := .checkLow l k p b, gapTimer := true } }) ∧
    (∀ (l k h b : Byte) (p : List Byte), s.port.receiver = .checkLow l k p h → crc16 (l :: k :: p) ≠ read16 h b →
      exec (.controlByteReceived b) s = .next { s with port := { s.port with receiver := .hunt, gapTimer := false } }) ∧
    (exec .byteGapExpiry s = .next (if s.port.gapTimer then
      { s with port := { s.port with receiver := .hunt, gapTimer := false } } else s)) ∧
    (∀ (kind : Byte) (p : List Byte) (check : BitVec 16), crc16 (u8 p.length :: kind :: p) ≠ check →
      exec (.badCheckFrame kind p check) s = .next { s with port := { s.port with receiver := .hunt, gapTimer := false } }) ∧
    (exec .hostSilenceExpiry s = .next (if s.port.silenceTimer then
      { s with port := { s.port with silenceTimer := false, hostSilent := true }, lamp := true } else s))

/-- The three common checks in their order, the modes each command is accepted in, and the owner's turn after them. -/
def Obligations.CommonChecksInOrder : Prop :=
  (∀ s : State, s.Ready →
    (∀ (kind : Byte) (p : List Byte), Command.ofKind kind = none →
      exec (.unknownCommand kind p) s = .next (s.replied kind ⟨.refused, some .unknownCommand, []⟩)) ∧
    (∀ (c : Command) (p : List Byte), p.length ≠ c.payloadLength →
      exec (c.instr p) s = .next (s.replied c.code ⟨.refused, some .badLength, []⟩)) ∧
    (∀ (c : Command) (p : List Byte), p.length = c.payloadLength → c.acceptedIn s.modes.mode = false →
      exec (c.instr p) s = .next (s.replied c.code ⟨.refused, some .wrongMode, []⟩)) ∧
    (∀ (c : Command) (p : List Byte), p.length = c.payloadLength → c.acceptedIn s.modes.mode = true →
      exec (c.instr p) s = .next ((ownerOf s.port.hostSilent c p s.taking).1.reply c.code
        (ownerOf s.port.hostSilent c p s.taking).2))) ∧
  (∀ (c : Command) (m : Mode), c.acceptedIn m = false ↔
    (c ∈ [.setAxle, .setLimits, .setClass, .setFilter, .setLink] ∧ m ≠ .config) ∨
    (c ∈ [.learn, .bind, .cancel] ∧ m ≠ .run ∧ m ≠ .test) ∨ (c = .inject ∧ m ≠ .test)) ∧
  (∀ kind : Byte, kind ∈ [0x80#8, 0x90#8, 0x91#8, 0x92#8, 0x93#8, 0x94#8, 0x95#8] → Command.ofKind kind = none)

/-- A good frame that meets an occupied reply buffer is discarded: HOST_OVERRUN is raised, and beside that only the good
frame itself counts. The rows of commands, HOST_OVERRUN and UNKNOWN_COMMAND react by the state, whatever they are called;
BAD_CHECK_FRAME reacts by its check, and one whose check matches is a good frame (log entry 10). -/
def Obligations.OverlapRaisesHostOverrun : Prop :=
  ∀ s : State, s.resetLow = false → s.store.reply ≠ .empty →
    (∀ (c : Command) (p : List Byte), exec (c.instr p) s = .next (s.framed.raise .hostOverrun)) ∧
    (∀ (kind : Byte) (p : List Byte), exec (.hostOverrun kind p) s = .next (s.framed.raise .hostOverrun)) ∧
    (∀ (kind : Byte) (p : List Byte), exec (.unknownCommand kind p) s = .next (s.framed.raise .hostOverrun)) ∧
    (∀ (kind : Byte) (p : List Byte) (check : BitVec 16), crc16 (u8 p.length :: kind :: p) = check →
      exec (.badCheckFrame kind p check) s = .next (s.framed.raise .hostOverrun)) ∧
    condIn .hostOverrun (s.framed.raise .hostOverrun).conds.set = true ∧ (s.framed.raise .hostOverrun).store.reply = s.store.reply

/-! ## Condition set and notice store -/

/-- A raise follows the condition's state and the mask: whatever the store holds, the condition is set afterwards, and an
unmasked one that was clear queues its CONDITION notice, for every condition but NOTICE_LOST by the full-store rule where the
store is full. The store's own raise of NOTICE_LOST sets it and takes its CONDITION notice only into a free entry. A NOTICE_LOST
that its notice causes is the only other condition a raise can set, and it clears none. -/
def Obligations.RaiseFollowsStateAndMask : Prop :=
  ∀ (s : State) (c : Condition),
    (condIn c s.conds.set = true → s.raise c = s) ∧
    (condIn c s.conds.set = false → condIn c s.conds.mask = true →
      s.raise c = { s with conds := { s.conds with set := condAdd c s.conds.set } }) ∧
    (condIn c s.conds.set = false → condIn c s.conds.mask = false → s.store.entries.length < 8 →
      ∃ st, s.raise c = { s with conds := { s.conds with set := condAdd c s.conds.set }, store := st } ∧
        st.entries.map (fun e => (e.notice, e.priority)) =
          s.store.entries.map (fun e => (e.notice, e.priority)) ++ [(.condition c s.seq.frameNumber, 4)]) ∧
    (c ≠ .noticeLost → condIn c s.conds.set = false → condIn c s.conds.mask = false → s.raise c =
      State.queueNotice { s with conds := { s.conds with set := condAdd c s.conds.set } } (.condition c s.seq.frameNumber) 4) ∧
    condIn c (s.raise c).conds.set = true ∧ (s.raise c).conds.mask = s.conds.mask ∧
    (∀ d : Condition, condIn d s.conds.set = true → condIn d (s.raise c).conds.set = true) ∧
    (∀ d : Condition, condIn d (s.raise c).conds.set = true → condIn d s.conds.set = true ∨ d = c ∨ d = .noticeLost) ∧
    (condIn .noticeLost s.conds.set = true → s.raiseNoticeLost = s) ∧
    (condIn .noticeLost s.conds.set = false →
      let lost : State := { s with conds := { s.conds with set := condAdd .noticeLost s.conds.set } }
      condIn .noticeLost lost.conds.set = true ∧
      ((condIn .noticeLost s.conds.mask = true ∨ 8 ≤ s.store.entries.length) → s.raiseNoticeLost = lost) ∧
      (condIn .noticeLost s.conds.mask = false → s.store.entries.length < 8 →
        ∃ st, s.raiseNoticeLost = { lost with store := st } ∧
          st.shown = s.store.shown ++ [(.condition .noticeLost s.seq.frameNumber, 4)]))

/-- A queued notice enters as the youngest; in a full store it displaces the youngest waiting notice of the largest number
above its own, or is dropped; either loss sets NOTICE_LOST, for which the full store takes no CONDITION notice. An entry that is
SENDING is neither displaced, replaced nor withdrawn. A transmitter that sends goes on, and an idle one with no reply to send
sends a notice that enters the empty store at once. -/
def Obligations.NoticeEntersDisplacesOrDrops : Prop :=
  (∀ (s : State) (n : Notice) (p : Nat), ∃ set : CondSet,
    (∀ d, condIn d set = (condIn d s.conds.set || (d == .noticeLost && (s.store.take n p).2))) ∧
    s.queueNotice n p = { s with store := (s.store.take n p).1, conds := { s.conds with set := set } }) ∧
  ∀ (st : NoticeStore) (n : Notice) (p : Nat),
    let shown := fun (es : List Entry) => es.map (fun e => (e.notice, e.priority))
    let es := st.entries.filter (fun e => !n.replaces e)
    (es.length < 8 → (st.take n p).2 = false ∧ shown (st.take n p).1.entries = shown es ++ [(n, p)]) ∧
    (8 ≤ es.length → (∀ e ∈ es, e.waits = true → e.priority ≤ p) →
      (st.take n p).2 = true ∧ (st.take n p).1.entries = es) ∧
    (8 ≤ es.length → (∃ e ∈ es, e.waits = true ∧ p < e.priority) →
      (st.take n p).2 = true ∧ ∃ older e younger, es = older ++ e :: younger ∧ e.waits = true ∧ p < e.priority ∧
        (∀ x ∈ es, x.waits = true → x.priority ≤ e.priority) ∧ (∀ x ∈ younger, x.waits = true → x.priority < e.priority) ∧
        shown (st.take n p).1.entries = shown (older ++ younger) ++ [(n, p)]) ∧
    (∀ e ∈ st.entries, e.waits = false → e ∈ (st.take n p).1.entries ∧ ∀ f, e ∈ (st.withdraw f).1.entries) ∧
    (let u := (st.take n p).1
     u.reply = st.reply ∧ u.readings = st.readings ∧ u.attn = !u.entries.isEmpty ∧
     (¬(st.transmitter = .idle ∧ st.reply = .empty) →
       u.transmitter = st.transmitter ∧ u.txd = st.txd ∧ ∀ e ∈ u.entries, e ∈ st.entries ∨ e = ⟨n, p, .waiting⟩) ∧
     (st.transmitter = .idle → st.reply = .empty → es = [] →
       u.entries = [⟨n, p, .sending⟩] ∧ u.transmitter = .sendingNotice ∧ u.txd = n.frame))

/-- At a message boundary the reply goes first, then the waiting notice with the lowest number, among equals the oldest;
with neither the transmitter becomes idle. Nothing but the store moves. A boundary that no message ends changes nothing (log
entry 3). -/
def Obligations.BoundarySendsMostUrgent : Prop :=
  ∀ s : State, s.sendsRestart = false →
    (s.store.transmitter = .idle → exec .messageBoundary s = .next s) ∧
    (s.store.transmitter ≠ .idle →
      let left := if s.store.transmitter = .sendingReply then s.store.entries else s.store.entries.filter Entry.waits
      ∃ st, exec .messageBoundary s = .next { s with store := st } ∧ st.readings = s.store.readings ∧
        st.reply = (if s.store.transmitter = .sendingReply then .empty else s.store.reply) ∧
        (∀ r, st.reply = .holding r → st.transmitter = .sendingReply ∧ st.txd = r.frame ∧ st.entries = left) ∧
        ((∀ r, st.reply ≠ .holding r) → (∀ e ∈ left, e.waits = false) →
          st.transmitter = .idle ∧ st.txd = [] ∧ st.entries = left) ∧
        ((∀ r, st.reply ≠ .holding r) → (∃ e ∈ left, e.waits = true) →
          ∃ older e younger, left = older ++ e :: younger ∧ e.waits = true ∧
            (∀ x ∈ older, x.waits = true → e.priority < x.priority) ∧
            (∀ x ∈ younger, x.waits = true → e.priority ≤ x.priority) ∧
            st.entries = older ++ { e with state := .sending } :: younger ∧
            st.transmitter = .sendingNotice ∧ st.txd = e.notice.frame))

/-- RESTART is only answered. The boundary that ends that answer, by either row, is the warm restart: what it keeps, what it
clears, and what becomes of every record. The last clause is the model's choice (log entry 3). -/
def Obligations.RestartTakesEffectAfterItsReply : Prop :=
  (∀ s : State, s.Ready → exec (.restart []) s = .next (s.replied 0x04#8 ⟨.done, none, []⟩)) ∧
  (∀ s : State, s.sendsRestart = true → exec .messageBoundary s = exec .warmRestart s ∧ exec .warmRestart s =
    .next { s with
      seq := { s.seq with timer := .stopped, beacon := none, txKey := false, txData := [], downlink := none }
      link := LinkReceiver.clear
      join := { s.join with candidates := [], reoffers := [] }
      positions := s.positions.map (fun r =>
        match r.state with
        | .absent => Position.emptied .absent r.stateEntry
        | .vacant => Position.emptied .vacant r.stateEntry
        | .learning | .offered => Position.emptied .vacant s.seq.frameNumber
        | .assigned | .active | .missing =>
            { Position.emptied .assigned s.seq.frameNumber with sensorId := r.sensorId })
      queue := []
      engine := .idle
      lamp := true
      conds := { s.conds with set := 0#7 }
      store := { s.store with
        entries := [⟨.mode .config .warmRestart, 1, .sending⟩], reply := .empty, transmitter := .sendingNotice
        txd := Notice.frame (.mode .config .warmRestart), attn := true }
      port := { s.port with silenceTimer := false, hostSilent := false }
      modes := { s.modes with mode := .config, pending := none }
      joinWork := .due }) ∧
  (∀ s : State, s.sendsRestart = false → exec .warmRestart s = .next s)

/-! ## Commands that read -/

/-- IDENTIFY, GET_STATUS, GET_WHEEL and GET_CANDIDATES answer with what the part holds, and change nothing else. -/
def Obligations.ReadingCommandsAnswer : Prop :=
  ∀ s : State, s.Ready →
    exec (.identify []) s = .next (s.replied 0x01#8 ⟨.done, none,
      [0x50#8, 0x41#8, 0x52#8, 0x4A#8, 0x55#8, 0x4E#8, 0x54#8, 0x56#8, 0x48#8, 0x34#8, 0x33#8, 0x32#8, 0x43#8,
       8#8, 32#8, 4#8, 8#8, 6#8, 8#8]⟩) ∧
    exec (.getStatus []) s = .next (s.replied 0x02#8 ⟨.done, none,
      [s.modes.mode.code, optCode Mode.code s.modes.pending] ++ bytes32 s.seq.frameNumber ++
      [s.modes.load.code, u8 s.config.ambient, u8 (s.countPositions (· == .absent)), u8 (s.countPositions (· == .vacant)),
       u8 (s.countPositions (· == .learning)), u8 (s.countPositions (· == .offered)), u8 (s.countPositions (· == .assigned)),
       u8 (s.countPositions (· == .active)), u8 (s.countPositions (· == .missing)), u8 s.join.candidates.length,
       u8 (s.queue.length + if s.engine = .idle then 0 else 1), u8 s.store.entries.length, s.conds.set.setWidth 8,
       s.conds.mask.setWidth 8, yesNo s.port.hostSilent, yesNo s.framed.lamp] ++
      (match s.pendingAlarms.head? with
       | some (p, k) => [0x01#8, u8 p, k.code, u8 (s.kinds.get k).cls.val, yesNo ((s.pos p).alarms.get k).active]
       | none => [0x00#8, 0x00#8, 0x00#8, 0x00#8, 0x00#8])⟩) ∧
    (∀ b : Byte, 32 ≤ b.toNat → exec (.getWheel [b]) s = .next (s.replied 0x40#8 ⟨.refused, some .badArgument, []⟩)) ∧
    (∀ b : Byte, b.toNat < 32 →
      let r := s.pos b.toNat
      let w := r.wheel
      let two := fun (x : Option (BitVec 16)) => match x with
        | some v => [0x01#8, v.extractLsb' 8 8, v.extractLsb' 0 8]
        | none => [0x00#8, 0x00#8, 0x00#8]
      let four := fun (x : Option (BitVec 32)) => match x with
        | some v => [0x01#8, v.extractLsb' 24 8, v.extractLsb' 16 8, v.extractLsb' 8 8, v.extractLsb' 0 8]
        | none => [0x00#8, 0x00#8, 0x00#8, 0x00#8, 0x00#8]
      let data : List Byte :=
        [b, r.state.code] ++ four r.sensorId ++
        [r.stateEntry.extractLsb' 24 8, r.stateEntry.extractLsb' 16 8, r.stateEntry.extractLsb' 8 8, r.stateEntry.extractLsb' 0 8] ++
        four w.lastHeard ++ [optCode channelCode w.lastChannel] ++
        two (w.hotGauge.map (BitVec.ofNat 16)) ++ two (w.coldGauge.map (BitVec.ofNat 16)) ++
        two (w.temperature.map (BitVec.ofInt 16)) ++
        (match w.battery with
         | some x => [0x01#8, x.setWidth 8]
         | none => [0x00#8, 0x00#8]) ++
        [(BitVec.ofBool w.flags.fault ++ BitVec.ofBool w.flags.fastLoss ++ BitVec.ofBool w.flags.trigger).setWidth 8] ++
        [BitVec.ofNat 8 w.history.length] ++ two (w.lossRate.map (BitVec.ofInt 16)) ++
        [(BitVec.ofBool w.lastConditions.clamped ++ BitVec.ofBool w.lastConditions.invalidCode).setWidth 8] ++
        (match r.offer with
         | some o => [0x01#8, BitVec.ofNat 8 o.remaining, o.candidate.id.extractLsb' 24 8, o.candidate.id.extractLsb' 16 8,
             o.candidate.id.extractLsb' 8 8, o.candidate.id.extractLsb' 0 8]
         | none => [0x00#8, 0x00#8, 0x00#8, 0x00#8, 0x00#8, 0x00#8]) ++
        (match r.learn with
         | some n => [0x01#8, BitVec.ofNat 8 n]
         | none => [0x00#8, 0x00#8]) ++
        (Kind.all.map (fun k =>
          let a := r.alarms.get k
          [(BitVec.ofBool a.pending ++ BitVec.ofBool a.active).setWidth 8, BitVec.ofNat 8 a.count])).flatten
      data.length = 62 ∧ exec (.getWheel [b]) s = .next (s.replied 0x40#8 ⟨.done, none, data⟩)) ∧
    exec (.getCandidates []) s = .next (s.replied 0x34#8 ⟨.done, none,
      u8 s.join.candidates.length :: (s.join.candidates.map (fun c =>
        bytes32 c.id ++ [channelCode c.channel] ++ bytes32 c.firstHeard ++ bytes32 c.lastHeard ++
          bytes16 (c.pressureCode.setWidth 16) ++ [c.temperatureCode, yesNo c.triggerSeen])).flatten⟩)

/-- GET_SUMMARY lists exactly the pending alarms, by class, then position, then kind, and then every fitted position with
its two sets. That a kind set stands most significant byte first is the model's choice (log entry 17). -/
def Obligations.SummaryListsPendingAlarms : Prop :=
  ∀ s : State, s.Ready →
    exec (.getSummary []) s = .next (s.replied 0x41#8 ⟨.done, none,
      u16 s.pendingAlarms.length ++ ((s.pendingAlarms.take 16).map (fun x => [u8 x.1, x.2.code])).flatten ++
      [u8 (allPositions.filter s.fitted).length] ++ ((allPositions.filter s.fitted).map s.summaryEntry).flatten⟩) ∧
    (∀ (p : Nat) (k : Kind), (p, k) ∈ s.pendingAlarms ↔ p < 32 ∧ ((s.pos p).alarms.get k).pending = true) ∧
    s.pendingAlarms.Pairwise (fun x y =>
      (s.kinds.get y.2).cls < (s.kinds.get x.2).cls ∨
      ((s.kinds.get y.2).cls = (s.kinds.get x.2).cls ∧ (x.1 < y.1 ∨ (x.1 = y.1 ∧ x.2.index < y.2.index)))) ∧
    (∀ (p : Nat) (k : Kind), s.summaryEntry p = [u8 p, (s.pos p).state.code] ++
        kindSetBytes (kindSetOf (fun k => ((s.pos p).alarms.get k).active)) ++
        kindSetBytes (kindSetOf (fun k => ((s.pos p).alarms.get k).pending)) ∧
      kindIn k (kindSetOf (fun k => ((s.pos p).alarms.get k).pending)) = ((s.pos p).alarms.get k).pending) ∧
    (∀ p : Nat, ∃ active pending : BitVec 16,
      s.summaryEntry p = [BitVec.ofNat 8 p, (s.pos p).state.code, active.extractLsb' 8 8, active.extractLsb' 0 8,
        pending.extractLsb' 8 8, pending.extractLsb' 0 8] ∧
      (∀ k : Kind, active.getLsbD k.index = ((s.pos p).alarms.get k).active ∧
        pending.getLsbD k.index = ((s.pos p).alarms.get k).pending) ∧
      ∀ i, 10 ≤ i → active.getLsbD i = false ∧ pending.getLsbD i = false)

/-- The control frame of a reply and of each notice, byte by byte: the sync byte, the length, the kind byte, the payload, and
the check by the eight steps for each byte; and the codes of every enumeration. -/
def Obligations.RepliesAndNoticesHaveTheirLayout : Prop :=
  let two := fun (x : BitVec 16) => [x.extractLsb' 8 8, x.extractLsb' 0 8]
  let four := fun (x : BitVec 32) => [x.extractLsb' 24 8, x.extractLsb' 16 8, x.extractLsb' 8 8, x.extractLsb' 0 8]
  let optTwo := fun (x : Option (BitVec 16)) => match x with
    | some v => 0x01#8 :: two v
    | none => [0x00#8, 0x00#8, 0x00#8]
  let framed := fun (n : Notice) (kind : Byte) (length : Nat) (payload : List Byte) =>
    payload.length = length ∧ n.frame =
      [0xA5#8, BitVec.ofNat 8 length, kind] ++ payload ++ two (crc16 (BitVec.ofNat 8 length :: kind :: payload))
  (crc16 [] = 0xFFFF#16 ∧ ∀ (bytes : List Byte) (b : Byte), crc16 (bytes ++ [b]) =
    (fun r : BitVec 16 => if r.getLsbD 15 then (r <<< 1) ^^^ 0x1021#16 else r <<< 1)^[8] (crc16 bytes ^^^ (b ++ 0#8))) ∧
  ([Mode.config, .run, .park, .test].map Mode.code = [0x01#8, 0x02#8, 0x03#8, 0x04#8] ∧
    [LoadState.empty, .laden, .tipping].map LoadState.code = [0x01#8, 0x02#8, 0x03#8] ∧
    [PosState.absent, .vacant, .learning, .offered, .assigned, .active, .missing].map PosState.code =
      [0x01#8, 0x02#8, 0x03#8, 0x04#8, 0x05#8, 0x06#8, 0x07#8] ∧
    [Channel.a, .b].map channelCode = [0x01#8, 0x02#8] ∧
    [Kind.lowAlarm, .hotAlarm, .missing, .lowWarn, .hotWarn, .leak, .dualImbalance, .highWarn, .sensorFault, .batteryLow].map
      Kind.code = [0x01#8, 0x02#8, 0x03#8, 0x04#8, 0x05#8, 0x06#8, 0x07#8, 0x08#8, 0x09#8, 0x0A#8] ∧
    [Condition.invalidCode, .clamped, .rxOverrun, .slotConflict, .candidateOverrun, .noticeLost, .hostOverrun].map
      Condition.code = [0x01#8, 0x02#8, 0x03#8, 0x04#8, 0x05#8, 0x06#8, 0x07#8] ∧
    [ReportType.level, .edge].map ReportType.code = [0x01#8, 0x02#8] ∧
    [DownlinkValue.normal, .fast, .slow, .park].map DownlinkValue.code = [0x01#8, 0x02#8, 0x03#8, 0x04#8] ∧
    (∀ (b : Byte) (k : TelegramKind), telegramKindOf b = some k ↔
      (b = 0x3C#8 ∧ k = .report) ∨ (b = 0x3D#8 ∧ k = .join))) ∧
  (∀ (echoed : Byte) (x : ReplyResult) (why : Option Reason) (data : List Byte), data.length ≤ 247 →
    let result := match x with
      | .done => 0x01#8
      | .clamped => 0x02#8
      | .refused => 0x03#8
    let reason := match why with
      | none => 0x00#8
      | some .unknownCommand => 0x01#8
      | some .badLength => 0x02#8
      | some .wrongMode => 0x03#8
      | some .badArgument => 0x04#8
      | some .busy => 0x05#8
      | some .notVacant => 0x06#8
      | some .notBound => 0x07#8
      | some .noCandidate => 0x08#8
      | some .notPending => 0x09#8
      | some .notConfigured => 0x0A#8
      | some .notAssigned => 0x0B#8
      | some .slotConflict => 0x0C#8
      | some .slotKind => 0x0D#8
      | some .duplicate => 0x0E#8
      | some .queueFull => 0x0F#8
    let length := BitVec.ofNat 8 (data.length + 3)
    Reply.frame ⟨echoed, ⟨x, why, data⟩⟩ = [0xA5#8, length, 0x80#8, echoed, result, reason] ++ data ++
      two (crc16 ([length, 0x80#8, echoed, result, reason] ++ data))) ∧
  (∀ (p : Nat) (k : Kind) (e : AlarmEvent) (f : FrameNo) (c : Option Nat) (t : Option Int),
    framed (.alarm p k e f c t) 0x90#8 13 ([BitVec.ofNat 8 p, BitVec.ofNat 8 (k.index + 1),
      match e with
      | .raised => 0x01#8
      | .reRaised => 0x02#8
      | .cleared => 0x03#8] ++ four f ++ optTwo (c.map (BitVec.ofNat 16)) ++ optTwo (t.map (BitVec.ofInt 16)))) ∧
  (∀ (p : Nat) (i : Option SensorId) (o : BindOutcome),
    framed (.bind p i o) 0x91#8 7 ([BitVec.ofNat 8 p] ++
      (match i with
       | some v => 0x01#8 :: four v
       | none => [0x00#8, 0x00#8, 0x00#8, 0x00#8, 0x00#8]) ++
      [match o with
       | .bound => 0x01#8
       | .failedTimeout => 0x02#8
       | .failedMode => 0x03#8])) ∧
  (∀ (m : Mode) (c : ModeCause),
    framed (.mode m c) 0x92#8 2 [m.code, match c with
      | .command => 0x01#8
      | .coldReset => 0x02#8
      | .warmRestart => 0x03#8]) ∧
  (∀ (c : Condition) (f : FrameNo), framed (.condition c f) 0x93#8 5 ([BitVec.ofNat 8 (c.index + 1)] ++ four f)) ∧
  (∀ (i : SensorId) (ch : Channel) (trigger : Bool) (pc : BitVec 12) (tc : BitVec 8),
    framed (.candidate i ch trigger pc tc) 0x94#8 9 (four i ++
      [match ch with
       | .a => 0x01#8
       | .b => 0x02#8, if trigger then 0x01#8 else 0x00#8] ++ two (pc.setWidth 16) ++ [tc])) ∧
  (∀ (p : Nat) (h c : Option Nat) (t : Option Int) (b : BitVec 3) (r : Option Int) (f : FrameNo),
    framed (.reading p h c t b r f) 0x95#8 18 ([BitVec.ofNat 8 p] ++ optTwo (h.map (BitVec.ofNat 16)) ++
      optTwo (c.map (BitVec.ofNat 16)) ++ optTwo (t.map (BitVec.ofInt 16)) ++ [b.setWidth 8] ++
      optTwo (r.map (BitVec.ofInt 16)) ++ four f))

/-! ## Commands that set -/

/-- AMBIENT clamps its value to 50..110 and stores it, and changes nothing else. -/
def Obligations.AmbientClampsAndStores : Prop :=
  ∀ (s : State) (b : Byte), s.Ready →
    let a := max 50 (min 110 b.toNat)
    exec (.ambient [b]) s = .next
      { s.replied 0x20#8 ⟨if a = b.toNat then .done else .clamped, none, [u8 a]⟩ with config := { s.config with ambient := a } }

/-- LOAD, SENSOR_MODE, SET_READINGS and SET_PORT store the one value they carry or refuse it, and change nothing else. -/
def Obligations.OneValueCommandsStore : Prop :=
  ∀ s : State, s.Ready →
    (∀ l : LoadState, exec (.load [l.code]) s = .next
      { s.replied 0x21#8 ⟨.done, none, [l.code]⟩ with modes := { s.modes with load := l } }) ∧
    (∀ b : Byte, b ∉ [1#8, 2#8, 3#8] → exec (.load [b]) s = .next (s.replied 0x21#8 ⟨.refused, some .badArgument, []⟩)) ∧
    (∀ v : DownlinkValue, v ≠ .park → exec (.sensorMode [v.code]) s = .next
      { s.replied 0x22#8 ⟨.done, none, [v.code]⟩ with seq := { s.seq with downlink := some v } }) ∧
    (∀ b : Byte, b ∉ [1#8, 2#8, 3#8] →
      exec (.sensorMode [b]) s = .next (s.replied 0x22#8 ⟨.refused, some .badArgument, []⟩)) ∧
    (∀ on : Bool, exec (.setReadings [yesNo on]) s = .next
      { s.framed with store := { s.store.replied 0x16#8 ⟨.done, none, [yesNo on]⟩ with readings := on } }) ∧
    (∀ b : Byte, b ∉ [0#8, 1#8] →
      exec (.setReadings [b]) s = .next (s.replied 0x16#8 ⟨.refused, some .badArgument, []⟩)) ∧
    (∀ b : Byte,
      let l := min 60 b.toNat
      exec (.setPort [b]) s = .next
        { s.replied 0x05#8 ⟨if b.toNat ≤ 60 then .done else .clamped, none, [u8 l]⟩ with
          port := { s.framed.port with
            silenceLimit := l, silenceTimer := (s.modes.mode == .run || s.modes.mode == .park) && l != 0 } })

/-- SET_MASK replaces the mask; CLEAR_CONDITIONS clears the conditions it names; both refuse bit 7; neither does more. -/
def Obligations.MaskAndClearConditions : Prop :=
  ∀ (s : State) (b : Byte), s.Ready →
    (b.getLsbD 7 = true →
      exec (.setMask [b]) s = .next (s.replied 0x15#8 ⟨.refused, some .badArgument, []⟩) ∧
      exec (.clearConditions [b]) s = .next (s.replied 0x43#8 ⟨.refused, some .badArgument, []⟩)) ∧
    (b.getLsbD 7 = false →
      exec (.setMask [b]) s = .next
        { s.replied 0x15#8 ⟨.done, none, [b]⟩ with conds := { s.conds with mask := b.setWidth 7 } } ∧
      ∃ after : CondSet, (∀ c, condIn c after = (condIn c s.conds.set && !b.getLsbD c.index)) ∧
        exec (.clearConditions [b]) s = .next
          { s.replied 0x43#8 ⟨.done, none, [s.conds.set.setWidth 8, after.setWidth 8]⟩ with
            conds := { s.conds with set := after } })

/-- SET_LINK clamps and stores the three link settings in CONFIG, and changes nothing else. -/
def Obligations.SetLinkStores : Prop :=
  ∀ (s : State) (p l v1 v0 : Byte), s.Ready → s.modes.mode = .config →
    let period := max 1 (min 16 p.toNat)
    let limit := max 3 l.toNat
    exec (.setLink [p, l, v1, v0]) s = .next
      { s.replied 0x14#8 ⟨if period = p.toNat ∧ limit = l.toNat then .done else .clamped, none, [u8 period, u8 limit, v1, v0]⟩ with
        seq := { s.seq with period := period, silenceLimit := limit, vehicleCode := v1 ++ v0 } }

/-- SET_LIMITS clamps all ten limits, refuses an inconsistent set with the limits still held, and otherwise stores them
together; in any other mode it is refused WRONG_MODE. -/
def Obligations.SetLimitsClampsChecksStores : Prop :=
  ∀ (s : State) (tref pw pa ph h tw ta lk d1 d0 i : Byte), s.Ready →
    let payload := [tref, pw, pa, ph, h, tw, ta, lk, d1, d0, i]
    let asked : Limits := ⟨tref.toNat, pw.toNat, pa.toNat, ph.toNat, h.toNat, tw.toNat, ta.toNat, lk.toNat,
      256 * d1.toNat + d0.toNat, i.toNat⟩
    let new : Limits := ⟨min 40 tref.toNat, max 1 (min 50 pw.toNat), max 2 (min 80 pa.toNat), max 1 (min 50 ph.toNat),
      min 100 h.toNat, max 40 (min 150 tw.toNat), max 41 (min 180 ta.toNat), max 1 (min 200 lk.toNat),
      max 10 (min 400 (256 * d1.toNat + d0.toNat)), max 10 i.toNat⟩
    (s.modes.mode ≠ .config → exec (.setLimits payload) s = .next (s.replied 0x11#8 ⟨.refused, some .wrongMode, []⟩)) ∧
    (s.modes.mode = .config → (new.lowAlarmPct ≤ new.lowWarnPct ∨ new.hotAlarm ≤ new.hotWarn) →
      exec (.setLimits payload) s = .next (s.replied 0x11#8 ⟨.refused, some .badArgument, s.config.limits.bytes⟩)) ∧
    (s.modes.mode = .config → new.lowWarnPct < new.lowAlarmPct → new.hotWarn < new.hotAlarm →
      exec (.setLimits payload) s = .next
        { s.replied 0x11#8 ⟨if new = asked then .done else .clamped, none,
            [u8 new.tref, u8 new.lowWarnPct, u8 new.lowAlarmPct, u8 new.highWarnPct, u8 new.hysteresis, u8 new.hotWarn,
             u8 new.hotAlarm, u8 new.leak] ++ u16 new.dual ++ [u8 new.interval]⟩ with
          config := { s.config with limits := new } })

/-- SET_CLASS checks kind, class and type in that order, clamps the confirm count except for MISSING, and replaces one
entry; in any other mode it is refused WRONG_MODE. -/
def Obligations.SetClassReplacesEntry : Prop :=
  ∀ (s : State) (kb c t n : Byte), s.Ready →
    (s.modes.mode ≠ .config → exec (.setClass [kb, c, t, n]) s = .next (s.replied 0x12#8 ⟨.refused, some .wrongMode, []⟩)) ∧
    (s.modes.mode = .config → (kb.toNat = 0 ∨ 10 < kb.toNat ∨ 2 < c.toNat ∨ t ∉ [1#8, 2#8]) →
      exec (.setClass [kb, c, t, n]) s = .next (s.replied 0x12#8 ⟨.refused, some .badArgument, []⟩)) ∧
    (s.modes.mode = .config → ∀ (k : Kind) (cls : Fin 3) (type : ReportType), kb = k.code → c.toNat = cls.val → t = type.code →
      let count := max 1 (min 4 n.toNat)
      exec (.setClass [kb, c, t, n]) s = .next
        { s.replied 0x12#8
            (if k = .missing then ⟨.done, none, [kb, c, t, 0#8]⟩
             else ⟨if count = n.toNat then .done else .clamped, none, [kb, c, t, u8 count]⟩) with
          kinds := s.kinds.put k ⟨cls, type, if k = .missing then none else some count⟩ }) ∧
    (∀ (k j : Kind) (x : KindSetting), (s.kinds.put k x).get j = if j = k then x else s.kinds.get j)

/-- SET_FILTER replaces one filter entry whole in CONFIG; an ID is admitted exactly when an enabled entry agrees with it at
every bit that its mask leaves to compare. -/
def Obligations.SetFilterAndAdmission : Prop :=
  (∀ (s : State) (n c3 c2 c1 c0 m3 m2 m1 m0 e : Byte), s.Ready → s.modes.mode = .config →
    ((4 ≤ n.toNat ∨ e ∉ [0#8, 1#8]) → exec (.setFilter [n, c3, c2, c1, c0, m3, m2, m1, m0, e]) s =
      .next (s.replied 0x13#8 ⟨.refused, some .badArgument, []⟩)) ∧
    (n.toNat < 4 → ∀ on : Bool, e = yesNo on → exec (.setFilter [n, c3, c2, c1, c0, m3, m2, m1, m0, e]) s =
      .next { s.replied 0x13#8 ⟨.done, none, [n, c3, c2, c1, c0, m3, m2, m1, m0, e]⟩ with
        join := { s.join with filters := s.join.filters.set n.toNat ⟨c3 ++ c2 ++ c1 ++ c0, m3 ++ m2 ++ m1 ++ m0, on⟩ } })) ∧
  (∀ (fs : List AcceptFilter) (id : SensorId), admits fs id = true ↔
    ∃ f ∈ fs, f.enable = true ∧ ∀ i < 32, f.mask.getLsbD i = false → id.getLsbD i = f.code.getLsbD i)

/-- SET_AXLE's checks, and the clamped entry it stores; it brings the axle's four positions into line with that entry, and
the other positions keep their records. A position that changes loses its waiting ALARM and READING notices and its REPORT in
flight is marked void; every other notice stays. -/
def Obligations.SetAxleFitsPositions : Prop :=
  ∀ (s : State) (a e1 e0 l1 l0 : Byte), s.Ready → s.modes.mode = .config →
    (∀ pr tw : Byte, (a.toNat = 0 ∨ 8 < a.toNat ∨ pr ∉ [0#8, 1#8] ∨ tw ∉ [0#8, 1#8]) →
      exec (.setAxle [a, pr, tw, e1, e0, l1, l0]) s = .next (s.replied 0x10#8 ⟨.refused, some .badArgument, []⟩)) ∧
    (∀ present twin : Bool, 1 ≤ a.toNat → a.toNat ≤ 8 → s.positions.length = 32 → s.axles.length = 8 →
      let empty := max 100 (min 4000 (256 * e1.toNat + e0.toNat))
      let laden := max 100 (min 4000 (256 * l1.toNat + l0.toNat))
      let fits := fun (p : Nat) => present && (p % 2 == 0 || twin)
      let changes := fun (p : Nat) => p / 4 + 1 == a.toNat && ((s.pos p).state == .absent) == fits p
      ∃ t, exec (.setAxle [a, yesNo present, yesNo twin, e1, e0, l1, l0]) s = .next t ∧
        t = { s with axles := s.axles.set (a.toNat - 1) ⟨present, twin, empty, laden⟩, positions := t.positions
                     engine := s.engine.voidedFor changes, lamp := true, store := t.store, port := s.framed.port } ∧
        t.store.reply = .holding ⟨0x10#8,
          ⟨if empty = 256 * e1.toNat + e0.toNat ∧ laden = 256 * l1.toNat + l0.toNat then .done else .clamped, none,
           [a, yesNo present, yesNo twin] ++ u16 empty ++ u16 laden⟩⟩ ∧
        (∀ p < 32, t.pos p =
          if changes p then Position.emptied (if fits p then .vacant else .absent) s.seq.frameNumber else s.pos p) ∧
        t.store.entries = s.store.entriesWithout changes ∧ t.store.readings = s.store.readings)

/-! ## Learning, binding and unbinding -/

/-- LEARN's checks in their order, and the learn record of 150 frames it makes. -/
def Obligations.LearnWaitsAtAVacantPosition : Prop :=
  ∀ (s : State) (b : Byte), s.Ready → (s.modes.mode = .run ∨ s.modes.mode = .test) → s.positions.length = 32 →
    let refuse := fun (r : Reason) => exec (.learn [b]) s = .next (s.replied 0x30#8 ⟨.refused, some r, []⟩)
    (32 ≤ b.toNat → refuse .badArgument) ∧
    (b.toNat < 32 → (s.pos b.toNat).state ≠ .vacant → refuse .notVacant) ∧
    (b.toNat < 32 → (s.pos b.toNat).state = .vacant → (∃ r ∈ s.positions, r.state = .learning) → refuse .busy) ∧
    (b.toNat < 32 → (s.pos b.toNat).state = .vacant → 4 ≤ s.countPositions PosState.pendingBind → refuse .busy) ∧
    (b.toNat < 32 → (s.pos b.toNat).state = .vacant → (∀ r ∈ s.positions, r.state ≠ .learning) →
      s.countPositions PosState.pendingBind < 4 → exec (.learn [b]) s = .next
        { s.replied 0x30#8 ⟨.done, none, [b, 150#8]⟩ with
          positions := s.positions.set b.toNat
            { s.pos b.toNat with state := .learning, stateEntry := s.seq.frameNumber, learn := some 150 } })

/-- BIND's checks in their order; the candidate leaves the list and stands in the offer record of six beacons. -/
def Obligations.BindOffersACandidate : Prop :=
  ∀ (s : State) (b i3 i2 i1 i0 : Byte), s.Ready → (s.modes.mode = .run ∨ s.modes.mode = .test) → s.positions.length = 32 →
    let id : SensorId := i3 ++ i2 ++ i1 ++ i0
    let refuse := fun (r : Reason) => exec (.bind [b, i3, i2, i1, i0]) s = .next (s.replied 0x31#8 ⟨.refused, some r, []⟩)
    (32 ≤ b.toNat → refuse .badArgument) ∧
    (b.toNat < 32 → (s.pos b.toNat).state ≠ .vacant → refuse .notVacant) ∧
    (b.toNat < 32 → (s.pos b.toNat).state = .vacant → (∀ c ∈ s.join.candidates, c.id ≠ id) → refuse .noCandidate) ∧
    (b.toNat < 32 → (s.pos b.toNat).state = .vacant → (∃ c ∈ s.join.candidates, c.id = id) →
      4 ≤ s.countPositions PosState.pendingBind → refuse .busy) ∧
    (b.toNat < 32 → (s.pos b.toNat).state = .vacant → s.countPositions PosState.pendingBind < 4 →
      ∀ (older younger : List Candidate) (c : Candidate), s.join.candidates = older ++ c :: younger → c.id = id →
        (∀ x ∈ older ++ younger, x.id ≠ id) → exec (.bind [b, i3, i2, i1, i0]) s = .next
          { s.replied 0x31#8 ⟨.done, none, [b, i3, i2, i1, i0, 6#8]⟩ with
            join := { s.join with candidates := older ++ younger }
            positions := s.positions.set b.toNat
              { s.pos b.toNat with state := .offered, sensorId := some id, stateEntry := s.seq.frameNumber
                                   offer := some ⟨6, c⟩, learn := none } })

/-- CANCEL of a pending position and UNBIND of any position with something to release make it VACANT with a cleared record,
withdraw its waiting ALARM and READING notices and return an offered candidate; other states are refused. -/
def Obligations.CancelAndUnbindVacate : Prop :=
  ∀ (s : State) (b : Byte), s.Ready → s.positions.length = 32 →
    let old := (s.pos b.toNat).state
    (32 ≤ b.toNat → exec (.unbind [b]) s = .next (s.replied 0x32#8 ⟨.refused, some .badArgument, []⟩) ∧
      ((s.modes.mode = .run ∨ s.modes.mode = .test) →
        exec (.cancel [b]) s = .next (s.replied 0x33#8 ⟨.refused, some .badArgument, []⟩))) ∧
    ((s.modes.mode = .run ∨ s.modes.mode = .test) → b.toNat < 32 → old ∉ [.learning, .offered] →
      exec (.cancel [b]) s = .next (s.replied 0x33#8 ⟨.refused, some .notPending, []⟩)) ∧
    (b.toNat < 32 → old ∈ [.absent, .vacant] → exec (.unbind [b]) s = .next (s.replied 0x32#8 ⟨.refused, some .notBound, []⟩)) ∧
    (b.toNat < 32 → ∀ (c : Instr) (kind : Byte) (data : List Byte),
      ((c = .cancel [b] ∧ kind = 0x33#8 ∧ data = [b, old.code] ∧ (s.modes.mode = .run ∨ s.modes.mode = .test) ∧
          old ∈ [.learning, .offered]) ∨
        (c = .unbind [b] ∧ kind = 0x32#8 ∧ data = [b, old.code] ++ optField 4 bytes32 (s.pos b.toNat).sensorId ∧
          old ∉ [.absent, .vacant])) →
      ∃ t, exec c s = .next t ∧
        t = { s with positions := s.positions.set b.toNat (Position.emptied .vacant s.seq.frameNumber)
                     join := { s.join with candidates := t.join.candidates }, engine := s.engine.voidedFor (fun p => p == b.toNat)
                     lamp := t.lampRule, conds := t.conds, store := t.store, port := s.framed.port } ∧
        (t.pos b.toNat).state = .vacant ∧ (t.pos b.toNat).sensorId = none ∧ (t.pos b.toNat).offer = none ∧
        (t.pos b.toNat).learn = none ∧
        (t.pos b.toNat).wheel = ⟨none, none, none, none, none, none, ⟨false, false, false⟩, [], none, ⟨false, false⟩⟩ ∧
        (∀ k, (t.pos b.toNat).alarms.get k = ⟨false, false, 0⟩) ∧
        t.store.reply = .holding ⟨kind, ⟨.done, none, data⟩⟩ ∧ t.store.readings = s.store.readings ∧
        t.conds.mask = s.conds.mask ∧
        (∀ e ∈ t.store.entries, e.waits = true → e.notice.alarmOrReadingFor b.toNat = false) ∧
        (∀ e ∈ s.store.entries, e.notice.alarmOrReadingFor b.toNat = false → t.conds = s.conds → e ∈ t.store.entries) ∧
        ((s.pos b.toNat).offer = none → t.join.candidates = s.join.candidates ∧ t.conds = s.conds) ∧
        (∀ f, (s.pos b.toNat).offer = some f →
          (s.join.candidates.length < 8 → t.join.candidates = s.join.candidates ++ [f.candidate] ∧ t.conds = s.conds) ∧
          (8 ≤ s.join.candidates.length → t.join.candidates = s.join.candidates ∧
            condIn .candidateOverrun t.conds.set = true)))

/-! ## Acknowledging -/

/-- ACK_ALARM clears pending for the named kinds at the positions it names, withdraws their waiting ALARM notices, judges
LAMP again and answers with the two counts; nothing else changes. That the kind set stands most significant byte first is the
model's choice (log entry 17). -/
def Obligations.AckAlarmClearsPending : Prop :=
  ∀ (s : State) (t k1 k0 : Byte), s.Ready → s.positions.length = 32 →
    let payload := [t, k1, k0]
    let kinds : BitVec 16 := k1 ++ k0
    let hit := fun (p : Nat) (k : Kind) =>
      decide (p < 32) && (decide (t = 0xFF#8) && (s.pos p).state.bound || decide (t.toNat = p)) && kinds.getLsbD k.index
    let gone := fun (e : Entry) => e.waits && (match e.notice with
      | .alarm p k .. => hit p k
      | _ => false)
    (((32 ≤ t.toNat ∧ t ≠ 0xFF#8) ∨ kinds = 0#16 ∨ 1024 ≤ kinds.toNat) →
      exec (.ackAlarm payload) s = .next (s.replied 0x42#8 ⟨.refused, some .badArgument, []⟩)) ∧
    (t.toNat < 32 → kinds ≠ 0#16 → kinds.toNat < 1024 → (s.pos t.toNat).state.bound = false →
      exec (.ackAlarm payload) s = .next (s.replied 0x42#8 ⟨.refused, some .notBound, []⟩)) ∧
    ((t = 0xFF#8 ∨ (t.toNat < 32 ∧ (s.pos t.toNat).state.bound = true)) → kinds ≠ 0#16 → kinds.toNat < 1024 →
      ∃ u, exec (.ackAlarm payload) s = .next u ∧
        u = { s with positions := u.positions, lamp := u.lampRule, store := u.store, port := s.framed.port } ∧
        u.store.entries = s.store.entries.filter (fun e => !gone e) ∧ u.store.readings = s.store.readings ∧
        u.store.reply = .holding ⟨0x42#8, ⟨.done, none,
          u16 ((allPositions.map (fun p => (Kind.all.filter (fun k => hit p k && ((s.pos p).alarms.get k).pending)).length)).sum) ++
          [u8 (s.store.entries.filter gone).length]⟩⟩ ∧
        ∀ p < 32, ({ u.pos p with alarms := (s.pos p).alarms } = s.pos p) ∧
          ∀ k, (u.pos p).alarms.get k =
            { (s.pos p).alarms.get k with pending := ((s.pos p).alarms.get k).pending && !hit p k })

/-! ## Changing the mode -/

/-- SET_MODE's four checks in their order. Outside CONFIG the target waits for a frame end. That a refusal BUSY carries the two
modes as data, which R181 asks for and R177 does not list, is read by inference (log entry 4). -/
def Obligations.SetModeChecksInOrder : Prop :=
  ∀ (s : State) (b : Byte), s.Ready →
    (b ∉ [1#8, 2#8, 3#8, 4#8] → exec (.setMode [b]) s = .next (s.replied 0x03#8 ⟨.refused, some .badArgument, []⟩)) ∧
    (∀ m : Mode, b = m.code →
      (∀ waiting, s.modes.pending = some waiting → exec (.setMode [b]) s =
        .next (s.replied 0x03#8 ⟨.refused, some .busy, [s.modes.mode.code, waiting.code]⟩)) ∧
      (s.modes.pending = none → m = s.modes.mode → exec (.setMode [b]) s = .next (s.replied 0x03#8 ⟨.done, none, [b, 0#8]⟩)) ∧
      (s.modes.pending = none → s.modes.mode = .config → m ≠ .config → (∀ a ∈ s.axles, a.present = false) →
        exec (.setMode [b]) s = .next (s.replied 0x03#8 ⟨.refused, some .notConfigured, []⟩)) ∧
      (s.modes.pending = none → s.modes.mode ≠ .config → m ≠ s.modes.mode → exec (.setMode [b]) s = .next
        { s.replied 0x03#8 ⟨.done, none, [s.modes.mode.code, b]⟩ with modes := { s.modes with pending := some m } }))

/-- A change out of CONFIG takes effect at once: a frame starts, ASSIGNED positions take its number, every window is empty,
the mark is set, the watch starts and a MODE notice is queued, in a full store by the full-store rule. The first beacon is built
from that state and carries no offer, since none is pending and the re-offer list is empty. -/
def Obligations.LeavingConfigStartsAFrame : Prop :=
  ∀ (s : State) (m : Mode), s.Ready → s.modes.mode = .config → s.modes.pending = none → m ≠ .config →
    (∃ a ∈ s.axles, a.present = true) → (∀ r ∈ s.positions, r.state ≠ .offered) →
    ∃ t b, exec (.setMode [m.code]) s = .next t ∧
      t = { s with
        modes := { s.modes with mode := m }
        seq := { s.seq with frameNumber := s.seq.frameNumber + 1#32
                            timer := .running (if m = .park then 8 * s.seq.period else s.seq.period)
                            beacon := some b, txKey := decide (m ≠ .test), txData := if m = .test then [] else b.bytes }
        join := { s.join with reoffers := [] }
        positions := s.positions.map (fun r => { r with
          wheel := { r.wheel with history := [] }
          stateEntry := if r.state = .assigned then s.seq.frameNumber + 1#32 else r.stateEntry })
        engine := t.engine
        port := { s.port with receiver := .hunt, gapTimer := false, hostSilent := false
                              silenceTimer := decide (m ≠ .test) && s.port.silenceLimit != 0 }
        lamp := t.lampRule
        store := t.store
        conds := t.conds
        joinWork := .due } ∧
      (s.engine = .idle → t.engine = .idle) ∧
      (∀ w, s.engine = .busy w → t.engine = .busy { w with historyMark := true }) ∧
      b.vehicleCode = s.seq.vehicleCode ∧ b.frameLow = (s.seq.frameNumber + 1#32).setWidth 16 ∧ b.linkMode = m ∧
      (∀ p < 32, b.assignedMap.getLsbD p = (s.pos p).state.hasId) ∧ b.ackMap = s.link.ackMap ∧
      b.joinOpen = (decide (m ≠ .park) && s.join.filters.any AcceptFilter.enable) ∧
      b.downlink = (if m = .park then some .park else s.seq.downlink) ∧ (s.join.reoffers = [] → b.offers = []) ∧
      t.store.reply = .holding ⟨0x03#8, ⟨.done, none, [m.code, 0#8]⟩⟩ ∧
      t.store.readings = s.store.readings ∧ t.conds.mask = s.conds.mask ∧
      t.store.shown = (s.store.take (.mode m .command) 1).1.shown ∧
      (s.store.entries.length < 8 → t.conds = s.conds ∧
        t.store.entries = s.store.entries ++ [⟨.mode m .command, 1, .waiting⟩]) ∧
      (8 ≤ s.store.entries.length → condIn .noticeLost t.conds.set = true ∧
        ∀ d, d ≠ .noticeLost → condIn d t.conds.set = condIn d s.conds.set)

/-! ## The wheel link -/

/-- Decode and encode agree: whatever a sensor puts into the reserved bits, check 1 reads its telegram back field by field;
and check 1 reads the part's own beacon as a beacon with its vehicle code. A beacon's bytes stand in their layout, and the check
byte comes by the eight steps for each byte. That the vehicle code, the frame number and the offered IDs stand most significant
byte first is the model's choice (log entry 17). -/
def Obligations.TelegramsAndBeaconsReadBack : Prop :=
  (∀ (t : Telegram) (reserved : BitVec 1) (high : BitVec 5), integrity (t.burst reserved high) = some (.telegram t)) ∧
  (∀ b : Beacon, b.offers.length ≤ 4 → integrity b.bytes = some (.beacon b.vehicleCode) ∧ b.bytes.length = 16 + 5 * b.offers.length) ∧
  (∀ b : Beacon, b.offers.length ≤ 4 → b.linkMode ≠ .config →
    let two := fun (x : BitVec 16) => [x.extractLsb' 8 8, x.extractLsb' 0 8]
    let four := fun (x : BitVec 32) => [x.extractLsb' 24 8, x.extractLsb' 16 8, x.extractLsb' 8 8, x.extractLsb' 0 8]
    let linkMode : BitVec 2 := match b.linkMode with
      | .config => 0#2
      | .run => 1#2
      | .park => 2#2
      | .test => 3#2
    let value : BitVec 2 := match b.downlink with
      | none => 0#2
      | some .normal => 0#2
      | some .fast => 1#2
      | some .slow => 2#2
      | some .park => 3#2
    let byte5 : BitVec 8 := 0#2 ++ value ++ BitVec.ofBool b.downlink.isSome ++ BitVec.ofBool b.joinOpen ++ linkMode
    let body := [0x5B#8] ++ two b.vehicleCode ++ two b.frameLow ++ [byte5] ++ four b.assignedMap ++ four b.ackMap ++
      [BitVec.ofNat 8 b.offers.length] ++ (b.offers.map (fun o => BitVec.ofNat 8 o.slot :: four o.id)).flatten
    b.bytes = body ++ [crc8 body]) ∧
  (crc8 [] = 0xFF#8 ∧ ∀ (bytes : List Byte) (x : Byte), crc8 (bytes ++ [x]) =
    (fun r : BitVec 8 => if r.getLsbD 7 then (r <<< 1) ^^^ 0x2F#8 else r <<< 1)^[8] (crc8 bytes ^^^ x))

/-- A burst that passes check 1 fails it when any one of its bytes is changed, so the changed copy does nothing. -/
def Obligations.OneByteErrorsAreDiscarded : Prop :=
  ∀ (burst : List Byte) (i : Nat) (x : Byte) (ch : Channel) (slot : Nat) (s : State),
    (integrity burst).isSome = true → (hi : i < burst.length) → x ≠ burst[i] →
    integrity (burst.set i x) = none ∧ exec (.radioArrival ch slot (burst.set i x)) s = .next s

/-- Where checks 1 to 6 end an arrival: in silence, with SLOT_CONFLICT, or with RX_OVERRUN; and in CONFIG and TEST every
radio arrival is ignored. -/
def Obligations.ArrivalsDiscardedByCheck : Prop :=
  ∀ (s : State) (ch : Channel) (slot : Nat) (burst : List Byte),
    let go := exec (.radioArrival ch slot burst) s
    ((s.seq.timer = .stopped ∨ s.modes.mode = .config ∨ s.modes.mode = .test) → go = .next s) ∧
    (integrity burst = none → go = .next s) ∧
    (∀ code, integrity burst = some (.beacon code) → go = .next s) ∧
    (∀ t : Telegram, integrity burst = some (.telegram t) → s.seq.timer ≠ .stopped →
      (s.modes.mode = .run ∨ s.modes.mode = .park) →
      (t.kind = .report →
        let r := s.pos (slot - 1)
        ((slot = 0 ∨ 32 < slot) → go = .next s) ∧
        (1 ≤ slot → slot ≤ 32 → r.state ∈ [.absent, .vacant, .learning] → go = .next s) ∧
        (1 ≤ slot → slot ≤ 32 → r.state ∉ [.absent, .vacant, .learning] → r.sensorId ≠ some t.id →
          go = .next (s.raise .slotConflict)) ∧
        (1 ≤ slot → slot ≤ 32 → r.state ∉ [.absent, .vacant, .learning] → r.sensorId = some t.id →
          (s.link.wheelMarks.getLsbD (slot - 1) = true → go = .next s) ∧
          (s.link.wheelMarks.getLsbD (slot - 1) = false → 6 ≤ s.queue.length → go = .next (s.raise .rxOverrun)))) ∧
      (t.kind = .join →
        ((slot < 33 ∨ 36 < slot ∨ ∀ b, s.seq.beacon = some b → b.joinOpen = false) → go = .next s) ∧
        (33 ≤ slot → slot ≤ 36 → ∀ b, s.seq.beacon = some b → b.joinOpen = true →
          ((t.id ∈ s.link.joinMarks.get slot ∨ 4 ≤ (s.link.joinMarks.get slot).length) → go = .next s) ∧
          (t.id ∉ s.link.joinMarks.get slot → (s.link.joinMarks.get slot).length < 4 → 6 ≤ s.queue.length →
            go = .next (s.raise .rxOverrun)))))

/-- A REPORT that passes every check is appended, marked and told to the position table; a JOIN is appended and marked. The
idle engine takes the entry of an empty queue at once, with the values of that moment. That the start sees the other effects
of the acceptance is read by inference (log entry 9). -/
def Obligations.ArrivalsAcceptedIntoTheQueue : Prop :=
  ∀ (s : State) (ch : Channel) (slot : Nat) (burst : List Byte) (t : Telegram),
    integrity burst = some (.telegram t) → s.seq.timer ≠ .stopped → (s.modes.mode = .run ∨ s.modes.mode = .park) →
    s.queue.length < 6 →
    let entry : QueueEntry := ⟨t, slot, ch, s.seq.frameNumber⟩
    (t.kind = .report → 1 ≤ slot → slot ≤ 32 → (s.pos (slot - 1)).state ∉ [.absent, .vacant, .learning] →
      (s.pos (slot - 1)).sensorId = some t.id → s.link.wheelMarks.getLsbD (slot - 1) = false →
      let old := s.pos (slot - 1)
      let record : Position := { old with
        state := .active
        stateEntry := if old.state = .active then old.stateEntry else s.seq.frameNumber
        offer := if old.state = .offered then none else old.offer
        wheel := { old.wheel with lastHeard := some s.seq.frameNumber, lastChannel := some ch
                                  history := if old.state = .offered then [] else old.wheel.history } }
      ∃ u, exec (.radioArrival ch slot burst) s = .next u ∧
        u = { s with queue := u.queue, engine := u.engine, positions := s.positions.set (slot - 1) record
                     link := { s.link with heardMap := s.link.heardMap ||| (1#32 <<< (slot - 1))
                                           wheelMarks := s.link.wheelMarks ||| (1#32 <<< (slot - 1)) }
                     store := u.store, conds := u.conds } ∧
        u.store.reply = s.store.reply ∧ u.store.readings = s.store.readings ∧ u.conds.mask = s.conds.mask ∧
        (old.state ≠ .offered → u.store = s.store ∧ u.conds = s.conds) ∧
        (old.state = .offered → s.store.entries.length < 8 → u.conds = s.conds ∧
          u.store.entries.map (fun e => (e.notice, e.priority)) = s.store.entries.map (fun e => (e.notice, e.priority)) ++
            [(.bind (slot - 1) (some t.id) .bound, 3)]) ∧
        (∀ w, s.engine = .busy w → u.queue = s.queue ++ [entry] ∧ u.engine = .busy w) ∧
        (s.engine = .idle → s.queue = [] → u.queue = [] ∧ u.engine = .busy ⟨entry, some (u.capture entry), false, false⟩)) ∧
    (t.kind = .join → 33 ≤ slot → slot ≤ 36 → (∃ b, s.seq.beacon = some b ∧ b.joinOpen = true) →
      t.id ∉ s.link.joinMarks.get slot → (s.link.joinMarks.get slot).length < 4 →
      ∃ u, exec (.radioArrival ch slot burst) s = .next u ∧
        u = { s with queue := u.queue, engine := u.engine, link := { s.link with joinMarks := u.link.joinMarks } } ∧
        (∀ n, u.link.joinMarks.get n = if n = slot then s.link.joinMarks.get n ++ [t.id] else s.link.joinMarks.get n) ∧
        (∀ w, s.engine = .busy w → u.queue = s.queue ++ [entry] ∧ u.engine = .busy w) ∧
        (s.engine = .idle → s.queue = [] → u.queue = [] ∧ u.engine = .busy ⟨entry, none, false, false⟩))

/-- INJECT's payload checks; and a good payload does to marks, queue, engine, table and conditions what the same telegram
does when it arrives by radio, while the reply tells the first of the checks 3 to 6 that it fails. -/
def Obligations.InjectActsAsAnArrival : Prop :=
  (∀ (s : State) (ch : Channel) (slot : Nat) (burst : List Byte) (t : Telegram), integrity burst = some (.telegram t) →
    s.seq.timer ≠ .stopped → (s.modes.mode = .run ∨ s.modes.mode = .park) →
    exec (.radioArrival ch slot burst) s = .next (s.arrive t slot ch)) ∧
  ∀ (s : State) (c slot k i3 i2 i1 i0 p1 p0 t b f : Byte), s.Ready → s.modes.mode = .test →
    let payload := [c, slot, k, i3, i2, i1, i0, p1, p0, t, b, f]
    ((c ∉ [1#8, 2#8] ∨ slot = 0#8 ∨ 36 < slot.toNat ∨ k ∉ [0x3C#8, 0x3D#8] ∨ 7 < b.toNat) →
      exec (.inject payload) s = .next (s.replied 0x50#8 ⟨.refused, some .badArgument, []⟩)) ∧
    (∀ (ch : Channel) (kind : TelegramKind), c = channelCode ch → telegramKindOf k = some kind → 1 ≤ slot.toNat →
      slot.toNat ≤ 36 → b.toNat ≤ 7 →
      let tg : Telegram := ⟨kind, i3 ++ i2 ++ i1 ++ i0, (p1 ++ p0).setWidth 12, t, b.setWidth 3,
        ⟨f.getLsbD 0, f.getLsbD 1, f.getLsbD 2⟩⟩
      let radio := s.arrive tg slot.toNat ch
      let data := bytes32 s.seq.frameNumber ++ [slot]
      ∃ u, exec (.inject payload) s = .next u ∧
        u = { s.framed with link := radio.link, queue := radio.queue, engine := radio.engine, positions := radio.positions
                            conds := radio.conds, store := u.store } ∧
        u.store.entries.map (fun e => (e.notice, e.priority)) = radio.store.entries.map (fun e => (e.notice, e.priority)) ∧
        u.store.readings = s.store.readings ∧
        u.store.reply = .holding ⟨0x50#8,
          let r := s.pos (slot.toNat - 1)
          let marks := s.link.joinMarks.get slot.toNat
          if (kind = .report ∧ 32 < slot.toNat) ∨
              (kind = .join ∧ (slot.toNat < 33 ∨ s.seq.beacon.map Beacon.joinOpen ≠ some true)) then
            ⟨.refused, some .slotKind, data⟩
          else if kind = .report ∧ r.state ∈ [.absent, .vacant, .learning] then ⟨.refused, some .notAssigned, data⟩
          else if kind = .report ∧ r.sensorId ≠ some tg.id then ⟨.refused, some .slotConflict, data⟩
          else if (kind = .report ∧ s.link.wheelMarks.getLsbD (slot.toNat - 1) = true) ∨
              (kind = .join ∧ (tg.id ∈ marks ∨ 4 ≤ marks.length)) then ⟨.refused, some .duplicate, data⟩
          else if 6 ≤ s.queue.length then ⟨.refused, some .queueFull, data⟩
          else ⟨.done, none, data⟩⟩)

/-! ## Frames -/

/-- A beacon that has left releases the key, and every offer it carried whose position is still OFFERED with that ID, and has
not become so in the running frame, has one beacon less; nothing else moves. That a beacon not on the air is never sent is log
entry 3. -/
def Obligations.BeaconSentCountsItsOffers : Prop :=
  ∀ s : State, s.positions.length = 32 →
    (s.seq.txKey = false → exec .beaconSent s = .next s) ∧
    (s.seq.txKey = true → ∀ b, s.seq.beacon = some b → (∀ o ∈ b.offers, 1 ≤ o.slot ∧ o.slot ≤ 32) →
      (b.offers.filter (fun o => o.isOffer)).Pairwise (fun x y => x.slot ≠ y.slot) →
      ∃ t, exec .beaconSent s = .next t ∧
        t = { s with seq := { s.seq with txKey := false, txData := [] }, positions := t.positions } ∧
        ∀ p < 32, t.pos p =
          match (s.pos p).offer with
          | some f =>
              if (s.pos p).state = .offered ∧ (s.pos p).stateEntry ≠ s.seq.frameNumber ∧
                ∃ o ∈ b.offers, o.isOffer = true ∧ o.slot = p + 1 ∧ (s.pos p).sensorId = some o.id
              then { s.pos p with offer := some { f with remaining := f.remaining - 1 } } else s.pos p
          | none => s.pos p)

/-- The silence check makes MISSING exactly the positions silent for S frames, with their MISSING kind active and unheard
of; the others keep their records. With room in the store a MISSING RAISED notice follows for each kind it makes active, in
position index order. The row does its own part of a frame end ahead of FRAME_END (log entry 5). -/
def Obligations.SilenceCheckMakesMissing : Prop :=
  ∀ s : State, s.positions.length = 32 →
    ((s.modes.mode = .config ∨ s.seq.timer = .stopped ∨ s.modes.pending = some .config) → exec .silenceCheck s = .next s) ∧
    (s.modes.mode ≠ .config → s.seq.timer ≠ .stopped → s.modes.pending ≠ some .config →
      ∃ t, exec .silenceCheck s = .next t ∧
        t = { s with positions := t.positions, lamp := t.lampRule, store := t.store, conds := t.conds } ∧ t.store.reply = s.store.reply ∧
        t.store.readings = s.store.readings ∧ t.conds.mask = s.conds.mask ∧
        (s.store.entries.length + s.silenceNotices.length ≤ 8 → t.conds = s.conds ∧
          t.store.shown = s.store.shown ++ s.silenceNotices) ∧
        ∀ p < 32,
          let r := s.pos p
          let isSilent := (r.state = .active ∧ ∃ f, r.wheel.lastHeard = some f ∧ s.seq.silenceLimit ≤ (s.seq.frameNumber - f).toNat) ∨
            (r.state = .assigned ∧ s.seq.silenceLimit ≤ (s.seq.frameNumber - r.stateEntry).toNat)
          (¬isSilent → t.pos p = r) ∧
          (isSilent →
            t.pos p = { r with state := .missing, stateEntry := s.seq.frameNumber, alarms := (t.pos p).alarms } ∧
            (∀ k, k ≠ .missing → (t.pos p).alarms.get k = r.alarms.get k) ∧
            (t.pos p).alarms.get .missing =
              if (r.alarms.get .missing).active then r.alarms.get .missing else ⟨true, true, 0⟩))

/-- Offer expiry and learn expiry vacate exactly the positions whose windows have run out, with BIND FAILED_TIMEOUT in position
index order, and count the other learns down; the offered candidates return behind those that the age-out kept, as far as
there is room. The rows do their own parts of a frame end ahead of FRAME_END, after the parts that R55 puts before them, and
each part is made once (log entry 5). -/
def Obligations.OffersAndLearnsExpire : Prop :=
  ∀ s : State, s.positions.length = 32 →
    ((s.modes.mode = .config ∨ s.seq.timer = .stopped ∨ s.modes.pending = some .config) →
      exec .offerExpiry s = .next s ∧ exec .learnExpiry s = .next s) ∧
    (s.modes.mode ≠ .config → s.seq.timer ≠ .stopped → s.modes.pending ≠ some .config →
      ((s.joinWork = .offersExpired ∨ s.joinWork = .learnsCounted) → exec .offerExpiry s = .next s) ∧
      ((s.joinWork = .due ∨ s.joinWork = .agedOut) → ∃ t, exec .offerExpiry s = .next t ∧
        t = { s with positions := t.positions, join := { s.join with candidates := t.join.candidates }
                     engine := s.engine.voidedFor s.offerEnds
                     lamp := if allPositions.any s.offerEnds then t.lampRule else s.lamp
                     store := t.store, conds := t.conds, joinWork := .offersExpired } ∧ t.store.reply = s.store.reply ∧
        t.store.readings = s.store.readings ∧ t.conds.mask = s.conds.mask ∧
        (∀ p < 32, t.pos p =
          if (s.pos p).state = .offered ∧ ∃ f, (s.pos p).offer = some f ∧ f.remaining = 0 then
            Position.emptied .vacant s.seq.frameNumber else s.pos p) ∧
        (s.join.candidates.length ≤ 8 → t.join.candidates = (s.young ++ s.returned).take 8) ∧
        (8 < (s.young ++ s.returned).length → s.returned ≠ [] → condIn .candidateOverrun t.conds.set = true) ∧
        ((s.young ++ s.returned).length ≤ 8 → s.store.served → s.store.entries.length + s.offerNotices.length ≤ 8 →
          t.conds = s.conds ∧ t.store.shown = s.store.shownWithout s.offerEnds ++ s.offerNotices)) ∧
      (s.joinWork = .learnsCounted → exec .learnExpiry s = .next s) ∧
      (∀ u, exec .offerExpiry s = .next u → exec .learnExpiry s = exec .learnExpiry u) ∧
      (s.joinWork = .offersExpired → ∃ t, exec .learnExpiry s = .next t ∧
        t = { s with positions := t.positions, engine := s.engine.voidedFor s.learnEnds
                     lamp := if allPositions.any s.learnEnds then t.lampRule else s.lamp
                     store := t.store, conds := t.conds, joinWork := .learnsCounted } ∧ t.store.reply = s.store.reply ∧
        t.store.readings = s.store.readings ∧ t.conds.mask = s.conds.mask ∧
        (∀ p < 32, t.pos p =
          if (s.pos p).state = .learning then
            match (s.pos p).learn with
            | some n => if n ≤ 1 then Position.emptied .vacant s.seq.frameNumber else { s.pos p with learn := some (n - 1) }
            | none => s.pos p
          else s.pos p) ∧
        (s.store.served → s.store.entries.length + s.learnNotices.length ≤ 8 →
          t.conds = s.conds ∧ t.store.shown = s.store.shownWithout s.learnEnds ++ s.learnNotices)))

/-- Age-out keeps, in their order, exactly the candidates heard less than 30 frames ago, and changes nothing else. The row
does its own part of a frame end ahead of FRAME_END, and the part is made once (log entry 5). -/
def Obligations.CandidatesAgeOut : Prop :=
  ∀ s : State,
    ((s.modes.mode = .config ∨ s.seq.timer = .stopped ∨ s.modes.pending = some .config ∨ s.joinWork ≠ .due) →
      exec .ageOut s = .next s) ∧
    (s.modes.mode ≠ .config → s.seq.timer ≠ .stopped → s.modes.pending ≠ some .config → s.joinWork = .due →
      exec .ageOut s = .next { s with
        joinWork := .agedOut
        join := { s.join with
          candidates := s.join.candidates.filter (fun c => decide ((s.seq.frameNumber - c.lastHeard).toNat < 30)) } })

/-- A frame end with no change of mode: every position's silence, offer and learn are settled and the other records kept, the
candidates aged out and returned, the heard map handed over, and the next frame starts with a beacon of the state then
standing; in TEST its offers are counted at once. It holds for either order of the blocks, which is a free value (log entry
7), and for whichever parts a row has made ahead of it (log entry 5). A beacon still on the air has left before it (log entry
6). MODE_CHANGE without a change pending changes nothing (log entry 3). -/
def Obligations.FrameEndStartsTheNextFrame : Prop :=
  (∀ s u : State, s.modes.mode ≠ .config → s.seq.timer ≠ .stopped → exec .beaconSent s = .next u →
    exec .frameEnd s = exec .frameEnd u) ∧
  (∀ s : State, s.positions.length = 32 → s.modes.mode ≠ .config → s.seq.timer ≠ .stopped → s.modes.pending = none →
    s.seq.txKey = false →
    let gone := fun (p : Nat) => s.offerEnds p || s.learnEnds p
    ∃ t b, exec .frameEnd s = .next t ∧ exec .modeChange s = .next s ∧
      t = { s with
        seq := { s.seq with frameNumber := s.seq.frameNumber + 1#32
                            timer := .running (if s.modes.mode = .park then 8 * s.seq.period else s.seq.period)
                            beacon := some b, txKey := decide (s.modes.mode ≠ .test)
                            txData := if s.modes.mode = .test then [] else b.bytes }
        link := ⟨0#32, 0#32, JoinMarks.none, s.link.heardMap⟩
        join := { s.join with candidates := t.join.candidates, reoffers := [] }
        positions := t.positions, engine := s.engine.voidedFor gone, lamp := t.lampRule, store := t.store, conds := t.conds
        joinWork := .due } ∧
      t.store.reply = s.store.reply ∧ t.store.readings = s.store.readings ∧ t.conds.mask = s.conds.mask ∧
      (∀ p < 32,
        let r := s.pos p
        ((r.state = .active ∧ ∃ f, r.wheel.lastHeard = some f ∧ s.seq.silenceLimit ≤ (s.seq.frameNumber - f).toNat) ∨
            (r.state = .assigned ∧ s.seq.silenceLimit ≤ (s.seq.frameNumber - r.stateEntry).toNat) →
          (t.pos p).state = .missing ∧ (t.pos p).stateEntry = s.seq.frameNumber ∧ (t.pos p).sensorId = r.sensorId) ∧
        (r.state = .offered → (s.joinWork = .due ∨ s.joinWork = .agedOut) → (∃ f, r.offer = some f ∧ f.remaining = 0) →
          t.pos p = Position.emptied .vacant s.seq.frameNumber) ∧
        (∀ n, r.state = .learning → s.joinWork ≠ .learnsCounted → r.learn = some n → t.pos p =
          if n ≤ 1 then Position.emptied .vacant s.seq.frameNumber else { r with learn := some (n - 1) })) ∧
      (s.modes.mode ≠ .test → ∀ p < 32, t.pos p = s.recordAtEnd p) ∧
      (s.modes.mode = .test → ∀ p < 32, t.pos p =
        if (s.recordAtEnd p).state = .offered ∧ (s.recordAtEnd p).stateEntry ≠ s.seq.frameNumber + 1#32 ∧
            ∃ o ∈ b.offers, o.isOffer = true ∧ o.slot = p + 1 then
          { s.recordAtEnd p with offer := (s.recordAtEnd p).offer.map (fun f => ⟨f.remaining - 1, f.candidate⟩) }
        else s.recordAtEnd p) ∧
      (s.join.candidates.length ≤ 8 → t.join.candidates = (s.young ++ s.returned).take 8) ∧
      ((s.young ++ s.returned).length ≤ 8 → s.store.served →
        s.store.entries.length + s.silenceNotices.length + s.offerNotices.length + s.learnNotices.length ≤ 8 →
        t.conds = s.conds ∧
        (t.store.shown = s.store.shownWithout gone ++ s.silenceNotices ++ (s.offerNotices ++ s.learnNotices) ∨
          t.store.shown = s.store.shownWithout gone ++ (s.offerNotices ++ s.learnNotices) ++ s.silenceNotices)) ∧
      b.vehicleCode = s.seq.vehicleCode ∧ b.frameLow = (s.seq.frameNumber + 1#32).setWidth 16 ∧ b.linkMode = s.modes.mode ∧
      b.ackMap = s.link.heardMap ∧
      b.joinOpen = (decide (s.modes.mode ≠ .park) && s.join.filters.any AcceptFilter.enable) ∧
      b.downlink = (if s.modes.mode = .park then some .park else s.seq.downlink) ∧
      (∀ p < 32, b.assignedMap.getLsbD p = (t.pos p).state.hasId) ∧
      b.offers = t.offersWith s.join.reoffers)

/-- A change to CONFIG at a frame end, by either row: what each block of R168's table does. With room in the store, a BIND
FAILED_MODE notice follows for each OFFERED or LEARNING position in position index order, with the offered ID or none, and
then the MODE notice. That the row MODE_CHANGE is the whole frame end is the model's choice (log entry 5). -/
def Obligations.ChangeToConfigAtAFrameEnd : Prop :=
  ∀ s : State, s.positions.length = 32 → s.modes.mode ≠ .config → s.seq.timer ≠ .stopped → s.modes.pending = some .config →
    ∃ t, exec .frameEnd s = .next t ∧ exec .modeChange s = .next t ∧
      t = { s with
        modes := ⟨.config, none, s.modes.load⟩
        seq := { s.seq with timer := .stopped, beacon := none, txKey := false, txData := [] }
        link := ⟨0#32, 0#32, JoinMarks.none, 0#32⟩
        join := { s.join with candidates := [], reoffers := [] }
        positions := t.positions
        queue := []
        engine := t.engine
        lamp := true
        port := { s.port with silenceTimer := false, hostSilent := false }
        store := t.store, conds := t.conds, joinWork := .due } ∧
      (∀ p < 32,
        let r := s.pos p
        let c : Position := { r with wheel := { r.wheel with history := [] }, alarms := clearAlarms }
        t.pos p =
          match r.state with
          | .active | .missing => { c with state := .assigned, stateEntry := s.seq.frameNumber }
          | .learning | .offered => Position.emptied .vacant s.seq.frameNumber
          | .absent | .vacant | .assigned => c) ∧
      (s.engine = .idle → t.engine = .idle) ∧
      (∀ w, s.engine.voidedFor (fun p => (s.pos p).state.pendingBind) = .busy w →
        t.engine = .busy { w with historyMark := true }) ∧
      (∀ e ∈ t.store.entries, e.waits = true → e.notice.alarmOrReading = false) ∧
      (let left := s.store.entries.filter (fun e => !(e.waits && e.notice.alarmOrReading))
       let failed : List (Notice × Nat) := allPositions.filterMap (fun p =>
         match (s.pos p).state with
         | .offered => some (.bind p (s.pos p).sensorId .failedMode, 3)
         | .learning => some (.bind p none .failedMode, 3)
         | _ => none)
       left.length + failed.length < 8 → t.conds = s.conds ∧
         t.store.shown = left.map (fun e => (e.notice, e.priority)) ++ failed ++ [(.mode .config .command, 1)]) ∧
      t.store.readings = s.store.readings ∧ t.store.reply = s.store.reply ∧ t.conds.mask = s.conds.mask

/-- A change among RUN, PARK and TEST at a frame end, by either row: the windows are emptied, the mark is set, waiting
entries and sub-records stay, the watch follows the modes, and the next frame starts under the new mode. The records, the
candidates and the notices are those of any frame end, with the MODE notice behind them. That the row MODE_CHANGE is the
whole frame end is the model's choice (log entry 5); the order of the blocks is a free value (log entry 7). -/
def Obligations.ChangeAmongRunParkTest : Prop :=
  ∀ (s : State) (m : Mode), s.positions.length = 32 → s.modes.mode ≠ .config → s.seq.timer ≠ .stopped →
    s.modes.pending = some m → m ≠ .config →
    ∃ t b, exec .frameEnd s = .next t ∧ exec .modeChange s = .next t ∧
      t = { s with
        modes := ⟨m, none, s.modes.load⟩
        seq := { s.seq with frameNumber := s.seq.frameNumber + 1#32
                            timer := .running (if m = .park then 8 * s.seq.period else s.seq.period)
                            beacon := some b, txKey := decide (m ≠ .test), txData := if m = .test then [] else b.bytes }
        link := ⟨0#32, 0#32, JoinMarks.none, s.link.heardMap⟩
        join := { s.join with candidates := t.join.candidates, reoffers := [] }
        positions := t.positions
        engine := t.engine
        lamp := t.lampRule
        port := if m = .test then { s.port with silenceTimer := false, hostSilent := false }
          else if s.modes.mode = .test then { s.port with silenceTimer := s.port.silenceLimit != 0 } else s.port
        store := t.store, conds := t.conds, joinWork := .due } ∧
      b.vehicleCode = s.seq.vehicleCode ∧ b.frameLow = (s.seq.frameNumber + 1#32).setWidth 16 ∧ b.linkMode = m ∧
      b.ackMap = s.link.heardMap ∧ b.joinOpen = (decide (m ≠ .park) && s.join.filters.any AcceptFilter.enable) ∧
      b.downlink = (if m = .park then some .park else s.seq.downlink) ∧
      (∀ p < 32, b.assignedMap.getLsbD p = (t.pos p).state.hasId) ∧
      b.offers = t.offersWith s.join.reoffers ∧
      (∀ p < 32, (t.pos p).wheel.history = [] ∧
        ∀ k, k ≠ .missing → (s.pos p).state.bound = true → (t.pos p).alarms.get k = (s.pos p).alarms.get k) ∧
      (s.engine = .idle → t.engine = .idle) ∧
      (∀ w, s.engine = .busy w → ∃ v, t.engine = .busy ⟨w.entry, w.capture, v, true⟩) ∧
      (s.seq.txKey = false →
        let gone := fun (p : Nat) => s.offerEnds p || s.learnEnds p
        let record := fun (p : Nat) => { s.recordAtEnd p with wheel := { (s.recordAtEnd p).wheel with history := [] } }
        (∀ w, s.engine.voidedFor gone = .busy w → t.engine = .busy { w with historyMark := true }) ∧
        (m ≠ .test → ∀ p < 32, t.pos p = record p) ∧
        (m = .test → ∀ p < 32, t.pos p =
          if (record p).state = .offered ∧ (record p).stateEntry ≠ s.seq.frameNumber + 1#32 ∧
              ∃ o ∈ b.offers, o.isOffer = true ∧ o.slot = p + 1 then
            { record p with offer := (record p).offer.map (fun f => ⟨f.remaining - 1, f.candidate⟩) }
          else record p) ∧
        (s.join.candidates.length ≤ 8 → t.join.candidates = (s.young ++ s.returned).take 8) ∧
        ((s.young ++ s.returned).length ≤ 8 → s.store.served →
          s.store.entries.length + s.silenceNotices.length + s.offerNotices.length + s.learnNotices.length < 8 →
          t.conds = s.conds ∧
          (t.store.shown = s.store.shownWithout gone ++ s.silenceNotices ++ (s.offerNotices ++ s.learnNotices) ++
              [(.mode m .command, 1)] ∨
            t.store.shown = s.store.shownWithout gone ++ (s.offerNotices ++ s.learnNotices) ++ s.silenceNotices ++
              [(.mode m .command, 1)]))) ∧
      t.store.readings = s.store.readings ∧ t.store.reply = s.store.reply ∧ t.conds.mask = s.conds.mask

/-! ## Receive queue and assessment engine -/

/-- An idle engine passes over REPORTs whose binding is gone and starts on the first entry left, capturing the inputs of
that moment; a busy one takes nothing. A start that meets a busy engine changes nothing (log entry 3). -/
def Obligations.EngineStartsOnTheHead : Prop :=
  ∀ s : State,
    (∀ w, s.engine = .busy w → exec .assessmentStart s = .next s) ∧
    (s.engine = .idle → ∃ gone left, s.queue = gone ++ left ∧
      (∀ e ∈ gone, e.telegram.kind = .report ∧
        ¬((s.pos (e.slot - 1)).state ∈ [.assigned, .active, .missing] ∧ (s.pos (e.slot - 1)).sensorId = some e.telegram.id)) ∧
      (left = [] → exec .assessmentStart s = .next { s with queue := [] }) ∧
      (∀ e later, left = e :: later →
        (e.telegram.kind = .join ∨
          ((s.pos (e.slot - 1)).state ∈ [.assigned, .active, .missing] ∧ (s.pos (e.slot - 1)).sensorId = some e.telegram.id)) ∧
        (e.telegram.kind = .join → exec .assessmentStart s =
          .next { s with queue := later, engine := .busy ⟨e, none, false, false⟩ }) ∧
        (e.telegram.kind = .report →
          let p := e.slot - 1
          let axle := s.axles.getD (p / 4) Axle.cold
          let q := s.pos (if p % 2 = 0 then p + 1 else p - 1)
          exec .assessmentStart s = .next { s with queue := later, engine := .busy ⟨e, some
            { load := s.modes.load, ambient := s.config.ambient, limits := s.config.limits
              period := if s.modes.mode = .park then 8 * s.seq.period else s.seq.period
              silenceLimit := s.seq.silenceLimit, axle := axle, history := (s.pos p).wheel.history
              partner := if axle.twin then some ⟨q.state, q.wheel.coldGauge, q.wheel.lastHeard⟩ else none
              startFrame := s.seq.frameNumber }, false, false⟩ })))

/-- A REPORT whose binding broke during its assessment leaves no trace: the engine becomes idle and goes on with the queue. -/
def Obligations.BrokenReportsLeaveNoTrace : Prop :=
  ∀ (s : State) (w : InFlight) (c : Capture), s.engine = .busy w → w.capture = some c →
    (w.voidMark = true ∨ (s.pos (w.entry.slot - 1)).state ∉ [.assigned, .active, .missing] ∨
      (s.pos (w.entry.slot - 1)).sensorId ≠ some w.entry.telegram.id) →
    exec .reportCompletion s = exec .assessmentStart { s with engine := .idle } ∧
    (s.queue = [] → exec .reportCompletion s = .next { s with engine := .idle })

/-- A REPORT whose binding held has its results taken: conditions, record, then each kind's sub-record by its verdict; in
CONFIG no kind is judged; with the history mark or in CONFIG the window is empty and the rate absent. With room in the store
there follow the CONDITION notices, the ALARM notices in kind order, CLEARED only where no waiting raise was withdrawn, and
with readings on the READING notice in place of a waiting one. What LEAK and CLAMPED see of a marked completion is read by
inference (log entry 8). -/
def Obligations.TakenReportsWriteAndJudge : Prop :=
  ∀ (s : State) (w : InFlight) (c : Capture), s.engine = .busy w → w.capture = some c → w.voidMark = false →
    (s.pos (w.entry.slot - 1)).state ∈ [.assigned, .active, .missing] →
    (s.pos (w.entry.slot - 1)).sensorId = some w.entry.telegram.id →
    let p := w.entry.slot - 1
    let old := s.pos p
    let marked := w.historyMark = true ∨ s.modes.mode = .config
    let r : Results := { assess w.entry c with
      history := if marked then [] else (assess w.entry c).history, rate := if marked then none else (assess w.entry c).rate }
    ∃ t, exec .reportCompletion s = exec .assessmentStart t ∧
      t = { s with engine := .idle, positions := t.positions, store := t.store, conds := t.conds
                   lamp := if s.modes.mode = .config then s.lamp else t.lampRule } ∧
      t.store.reply = s.store.reply ∧ t.store.readings = s.store.readings ∧
      (s.queue = [] → exec .reportCompletion s = .next t) ∧
      (∀ q, q ≠ p → t.pos q = s.pos q) ∧
      t.pos p = { old with
        wheel := { old.wheel with
          hotGauge := r.hot, coldGauge := r.cold, temperature := r.temperature, lossRate := r.rate, history := r.history
          battery := some w.entry.telegram.battery, flags := w.entry.telegram.flags, lastConditions := r.conditions }
        alarms := (t.pos p).alarms } ∧
      (∀ k, (t.pos p).alarms.get k = if s.modes.mode = .config then old.alarms.get k
        else SubRecord.judged (s.kinds.get k) k (old.alarms.get k) (verdict w.entry c r old.state k)) ∧
      (∀ d, d ≠ .noticeLost → condIn d t.conds.set = (condIn d s.conds.set ||
        (d == .invalidCode && r.conditions.invalidCode) || (d == .clamped && r.conditions.clamped))) ∧
      t.conds.mask = s.conds.mask ∧
      (let judges := decide (s.modes.mode ≠ .config)
       let event := fun (k : Kind) => if judges then
         SubRecord.event (s.kinds.get k) k (old.alarms.get k) (verdict w.entry c r old.state k) else none
       let raise := fun (k : Kind) (e : Entry) => e.waits && (match e.notice with
         | .alarm q j x .. => q == p && j == k && x != .cleared
         | _ => false)
       let replaced := fun (e : Entry) => e.waits && (match e.notice with
         | .reading q .. => q == p && judges && s.store.readings
         | _ => false)
       let left := s.store.entries.filter (fun e =>
         !(replaced e || Kind.all.any (fun k => decide (event k = some .cleared) && raise k e)))
       let met := (if r.conditions.invalidCode then s.conditionNotice .invalidCode else []) ++
         (if r.conditions.clamped then s.conditionNotice .clamped else [])
       let alarms := Kind.all.filterMap (fun k =>
         match event k with
         | some x =>
             if x = .cleared ∧ (∃ e ∈ s.store.entries, raise k e = true) then none
             else alarmOfClass (s.kinds.get k).cls (.alarm p k x w.entry.frame r.cold r.temperature)
         | none => none)
       let reading : List (Notice × Nat) := if judges && s.store.readings then
         [(.reading p r.hot r.cold r.temperature w.entry.telegram.battery r.rate w.entry.frame, 7)] else []
       s.store.served → s.store.entries.length + met.length + alarms.length + reading.length ≤ 8 →
         condIn .noticeLost t.conds.set = condIn .noticeLost s.conds.set ∧
         t.store.shown = left.map (fun e => (e.notice, e.priority)) ++ met ++ alarms ++ reading)

/-! ## Arithmetic and alarms -/

/-- Stages 2 and 3 give the nearest whole kPa at the reference temperature, with a half rounded up, and clamp into the
ranges of the record; which of an assessment's results are present follows from the two codes, and the conditions it met from
the codes and the clamps. -/
def Obligations.GaugesAreRoundedAndClamped : Prop :=
  (∀ (pc ambient tref : Nat) (t : Int), pc ≤ 4094 → 50 ≤ ambient → ambient ≤ 110 → tref ≤ 40 → -50 ≤ t → t ≤ 204 →
    let pca := coldAbsolute pc tref t
    (2 * (pc : Int) * (tref + 273) - (t + 273) < 2 * pca * (t + 273)) ∧
    (2 * pca * (t + 273) ≤ 2 * (pc : Int) * (tref + 273) + (t + 273)) ∧
    0 ≤ pca ∧ pca ≤ 5747 ∧
    (((coldGauge pc ambient tref t).1 : Int) = max 0 (min 4000 (pca - ambient)) ∧
      ((coldGauge pc ambient tref t).2 = true ↔ pca < ambient ∨ 4000 < pca - ambient)) ∧
    ((hotGauge pc ambient).1 = pc - ambient ∧ ((hotGauge pc ambient).2 = true ↔ pc < ambient))) ∧
  (∀ (e : QueueEntry) (c : Capture),
    let r := assess e c
    let pc := e.telegram.pressureCode
    let tc := e.telegram.temperatureCode
    let t : Int := tc.toNat - 50
    let cold := coldGauge pc.toNat c.ambient c.limits.tref t
    let rate := lossRate r.history c.period
    (r.hot = if pc = 4095#12 then none else some (hotGauge pc.toNat c.ambient).1) ∧
    (r.temperature = if tc = 255#8 then none else some t) ∧
    (r.cold = if pc = 4095#12 ∨ tc = 255#8 then none else some cold.1) ∧
    r.history = nextWindow c.load c.limits.interval e.frame r.cold c.history ∧
    (r.rate = if pc = 4095#12 then none else rate.1) ∧
    (r.conditions.invalidCode = true ↔ pc = 4095#12 ∨ tc = 255#8) ∧
    (r.conditions.clamped = true ↔ pc ≠ 4095#12 ∧
      ((hotGauge pc.toNat c.ambient).2 = true ∨ (tc ≠ 255#8 ∧ cold.2 = true) ∨ rate.2 = true)))

/-- Stage 4 keeps a window of at most eight samples whose neighbours stand between I and 3 I frames apart: a sample closer than
I frames does not enter, one farther than 3 I starts the window anew, and one that enters a full window displaces the oldest.
Stage 5 needs four samples; its rate is the fall from the oldest to the newest, times 3600, over the span in seconds, cut
toward zero and brought into -999..999. -/
def Obligations.WindowSpacingAndLossRate : Prop :=
  (∀ (load : LoadState) (interval : Nat) (f : FrameNo) (pg : Option Nat) (w : List Sample),
    let spaced := fun (w : List Sample) => w.length ≤ 8 ∧
      w.IsChain (fun a b => interval ≤ (b.frame - a.frame).toNat ∧ (b.frame - a.frame).toNat ≤ 3 * interval)
    (spaced w → spaced (nextWindow load interval f pg w)) ∧
      ((load = .tipping ∨ pg = none) → nextWindow load interval f pg w = w) ∧
      (∀ g, load ≠ .tipping → pg = some g →
        (w = [] → nextWindow load interval f pg w = [⟨f, g⟩]) ∧
        (∀ older newest, w = older ++ [newest] →
          let gap := (f - newest.frame).toNat
          (3 * interval < gap → nextWindow load interval f pg w = [⟨f, g⟩]) ∧
          (gap ≤ 3 * interval → gap < interval → nextWindow load interval f pg w = w) ∧
          (gap ≤ 3 * interval → interval ≤ gap → w.length < 8 → nextWindow load interval f pg w = w ++ [⟨f, g⟩]) ∧
          (gap ≤ 3 * interval → interval ≤ gap → w.length = 8 → nextWindow load interval f pg w = w.tail ++ [⟨f, g⟩])))) ∧
  (∀ (w : List Sample) (period : Nat),
    (w.length < 4 → lossRate w period = (none, false)) ∧
    (∀ oldest newest between, w = oldest :: between ++ [newest] → 2 ≤ between.length →
      (∃ r, (lossRate w period).1 = some r ∧ -999 ≤ r ∧ r ≤ 999 ∧ (0 < r → newest.cold < oldest.cold) ∧
        (r < 0 → oldest.cold < newest.cold)) ∧
      (newest.frame ≠ oldest.frame → 1 ≤ period →
        let fall : Int := ((oldest.cold : Int) - newest.cold) * 3600
        let seconds : Int := ((newest.frame - oldest.frame).toNat : Int) * period
        ∃ q : Int, |q| * seconds ≤ |fall| ∧ |fall| < (|q| + 1) * seconds ∧ (0 < q → 0 < fall) ∧ (q < 0 → fall < 0) ∧
          lossRate w period = (some (max (-999) (min 999 q)), decide (q < -999 ∨ 999 < q)))))

/-- The three thresholds of stage 6, and the raising and the clearing test of each of the ten kinds with the case in which it
is not evaluated. The two tests never both hold, and the harder kind of a pair brings the softer with it: LOW_ALARM with
LOW_WARN, HOT_ALARM with HOT_WARN. That LEAK with Lk = 1 does not clear at a rate of exactly 0, as R97's clearing test says
against its remark, is the model's choice (log entry 18). -/
def Obligations.VerdictsLeaveAGap : Prop :=
  (∀ (n : Nat) (l : Limits), l.inRange = true →
    let th := thresholds n l
    (100 * th.lowWarn ≤ n * (100 - l.lowWarnPct) ∧ n * (100 - l.lowWarnPct) < 100 * th.lowWarn + 100) ∧
    (100 * th.lowAlarm ≤ n * (100 - l.lowAlarmPct) ∧ n * (100 - l.lowAlarmPct) < 100 * th.lowAlarm + 100) ∧
    (n * (100 + l.highWarnPct) ≤ 100 * th.highWarn ∧ 100 * th.highWarn < n * (100 + l.highWarnPct) + 100) ∧
    th.lowAlarm ≤ th.lowWarn) ∧
  (∀ (e : QueueEntry) (c : Capture) (r : Results) (here : PosState), c.limits.inRange = true →
    let l := c.limits
    let th := thresholds (if c.load = .empty then c.axle.nominalEmpty else c.axle.nominalLaden) l
    let is := fun (k : Kind) (raises clears : Prop) =>
      ∃ v, verdict e c r here k = some v ∧ (v.raises = true ↔ raises) ∧ (v.clears = true ↔ clears)
    let held := fun (k : Kind) => verdict e c r here k = none
    (∀ pg, r.cold = some pg → c.load ≠ .tipping →
      is .lowAlarm (pg < th.lowAlarm) (th.lowAlarm + l.hysteresis ≤ pg) ∧
      is .lowWarn (pg < th.lowWarn) (th.lowWarn + l.hysteresis ≤ pg) ∧
      is .highWarn (th.highWarn < pg) ((pg : Int) ≤ max ((th.highWarn : Int) - l.hysteresis) 0)) ∧
    ((r.cold = none ∨ c.load = .tipping) → held .lowAlarm ∧ held .lowWarn ∧ held .highWarn) ∧
    (∀ t, r.temperature = some t →
      is .hotAlarm ((l.hotAlarm : Int) ≤ t) (t < (l.hotAlarm : Int) - 3) ∧
      is .hotWarn ((l.hotWarn : Int) ≤ t) (t < (l.hotWarn : Int) - 3)) ∧
    (r.temperature = none → held .hotAlarm ∧ held .hotWarn) ∧
    (let fast := e.telegram.flags.fastLoss = true
     (c.load ≠ .tipping → (fast ∨ r.rate ≠ none) →
       is .leak (fast ∨ ∃ x, r.rate = some x ∧ (l.leak : Int) ≤ x)
         (¬fast ∧ ∀ x, r.rate = some x → x < (l.leak : Int) / 2)) ∧
     ((c.load = .tipping ∨ (¬fast ∧ r.rate = none)) → held .leak)) ∧
    (let usable := fun (g : Nat) => c.axle.twin = true ∧ ∃ q f, c.partner = some q ∧
       q.state ∈ [.assigned, .active, .missing] ∧ q.coldGauge = some g ∧ q.lastHeard = some f ∧
       (c.startFrame - f).toNat < c.silenceLimit
     (∀ g pg, usable g → r.cold = some pg → c.load ≠ .tipping →
       is .dualImbalance ((l.dual : Int) ≤ |(pg : Int) - g|) (|(pg : Int) - g| < max ((l.dual : Int) - l.hysteresis) 1)) ∧
     ((r.cold = none ∨ c.load = .tipping ∨ ∀ g, ¬usable g) → held .dualImbalance)) ∧
    (let bad := e.telegram.flags.fault = true ∨ e.telegram.pressureCode = 4095#12 ∨ e.telegram.temperatureCode = 255#8
     is .sensorFault bad (¬bad)) ∧
    is .batteryLow (e.telegram.battery.toNat ≤ 1) (3 ≤ e.telegram.battery.toNat) ∧
    is .missing (here = .missing) (here ≠ .missing) ∧
    (∀ (k : Kind) (v : Verdict), verdict e c r here k = some v → ¬(v.raises = true ∧ v.clears = true)) ∧
    (∀ v, verdict e c r here .lowAlarm = some v → v.raises = true →
      ∃ u, verdict e c r here .lowWarn = some u ∧ u.raises = true) ∧
    (∀ v, verdict e c r here .hotAlarm = some v → v.raises = true →
      ∃ u, verdict e c r here .hotWarn = some u ∧ u.raises = true) ∧
    (c.load = .tipping → ∀ k, k ∈ [.lowAlarm, .lowWarn, .highWarn, .leak, .dualImbalance] → verdict e c r here k = none))

/-- A kind of a position turns over at the C-th successive disagreeing verdict and not before, an agreeing verdict starts the
run again, and an unevaluated one holds it. The other sub-records and positions keep what they hold. -/
def Obligations.ConfirmationTakesCVerdicts : Prop :=
  (∀ (s : State) (p : Nat) (f : FrameNo) (k : Kind) (v : Option Verdict), p < s.positions.length →
    ((s.judgeKind p f k v).pos p).alarms.get k = SubRecord.judged (s.kinds.get k) k ((s.pos p).alarms.get k) v ∧
    (∀ j, j ≠ k → ((s.judgeKind p f k v).pos p).alarms.get j = (s.pos p).alarms.get j) ∧
    (∀ q, q ≠ p → (s.judgeKind p f k v).pos q = s.pos q) ∧ (s.judgeKind p f k v).kinds = s.kinds) ∧
  (∀ (s : State) (p : Nat) (f : FrameNo) (k : Kind) (v : Verdict) (c : Nat),
    let a := (s.pos p).alarms.get k
    p < s.positions.length → k ≠ .missing → (s.kinds.get k).confirm = some c → a.count < c →
    (if a.active then !v.clears else v.raises) ≠ a.active →
    let start := s.setPos p { s.pos p with alarms := (s.pos p).alarms.put k { a with count := 0 } }
    let after := fun n => (((fun t : State => t.judgeKind p f k (some v))^[n] start).pos p).alarms.get k
    (∀ n < c, after n = { a with count := n }) ∧
    after c = ⟨!a.active, a.pending || !a.active, 0⟩ ∧
    (∀ u : Verdict, (if a.active then !u.clears else u.raises) = a.active →
      (((s.judgeKind p f k (some u)).pos p).alarms.get k).count = 0) ∧
    s.judgeKind p f k none = s)

/-- The notices a change of a kind queues: RAISED and RE_RAISED by class, and CLEARED only when no waiting raise was
withdrawn. -/
def Obligations.AlarmNoticesFollowClass : Prop :=
  ∀ (s : State) (p : Nat) (k : Kind) (f : FrameNo), p < s.positions.length →
    let notice := fun (e : AlarmEvent) =>
      Notice.alarm p k e f (s.pos p).wheel.coldGauge (s.pos p).wheel.temperature
    let queued := fun (t : State) (e : AlarmEvent) =>
      if (s.kinds.get k).cls = 0 then t else t.queueNotice (notice e) (if (s.kinds.get k).cls = 2 then 0 else 2)
    let count := ((s.pos p).alarms.get k).count
    s.becomeActive p k f = queued (s.setAlarm p k ⟨true, true, 0⟩) .raised ∧
    s.raiseAgain p k f = queued (s.setAlarm p k ⟨true, true, count⟩) .reRaised ∧
    (let waitingRaise := fun (e : Entry) => e.waits && (match e.notice with
      | .alarm q j x .. => q == p && j == k && x != .cleared
      | _ => false)
     let quiet : State := s.setAlarm p k ⟨false, ((s.pos p).alarms.get k).pending, 0⟩
     ((∃ e ∈ s.store.entries, waitingRaise e = true) → s.becomeInactive p k f =
        { quiet with store := s.store.withEntries (s.store.entries.filter (fun e => !waitingRaise e)) }) ∧
     ((∀ e ∈ s.store.entries, waitingRaise e = false) → s.store.attn = !s.store.entries.isEmpty →
        s.becomeInactive p k f = queued quiet .cleared))

/-! ## The JOIN decision -/

/-- The first steps of the JOIN decision and a JOIN that completes in CONFIG: what each changes, and that it changes nothing
else; then the idle engine goes on with the queue. -/
def Obligations.JoinDecisionSortsOut : Prop :=
  ∀ (s : State) (w : InFlight), s.engine = .busy w → w.capture = none →
    let done := fun (t : State) => exec .joinCompletion s = exec .assessmentStart t ∧
      (s.queue = [] → exec .joinCompletion s = .next t)
    let id := w.entry.telegram.id
    let idle : State := { s with engine := .idle }
    let held := fun (states : List PosState) => ∃ r ∈ s.positions, r.state ∈ states ∧ r.sensorId = some id
    (s.modes.mode = .config → done idle) ∧
    (s.modes.mode ≠ .config → held [.assigned, .active, .missing] → done { idle with
      join := { s.join with reoffers :=
        if id ∈ s.join.reoffers ∨ 4 ≤ s.join.reoffers.length then s.join.reoffers else s.join.reoffers ++ [id] } }) ∧
    (s.modes.mode ≠ .config → ¬held [.assigned, .active, .missing] → held [.offered] → done idle) ∧
    (s.modes.mode ≠ .config → ¬held [.assigned, .active, .missing, .offered] → admits s.join.filters id = false →
      done idle) ∧
    (s.modes.mode ≠ .config → ¬held [.assigned, .active, .missing, .offered] → admits s.join.filters id = true →
      (∀ c ∈ s.join.candidates, c.id ≠ id) → 8 ≤ s.join.candidates.length →
      done (State.raise idle .candidateOverrun))

/-- An admitted JOIN refreshes its candidate in place or appends a new one with a CANDIDATE notice; with TRIGGER and a
LEARNING position that candidate is offered there and leaves the list; then the idle engine goes on with the queue. -/
def Obligations.AdmittedJoinsMakeCandidates : Prop :=
  ∀ (s : State) (w : InFlight), s.engine = .busy w → w.capture = none → s.positions.length = 32 →
    s.modes.mode ≠ .config → admits s.join.filters w.entry.telegram.id = true →
    let e := w.entry
    let id := e.telegram.id
    (∀ r ∈ s.positions, r.state ∈ [.offered, .assigned, .active, .missing] → r.sensorId ≠ some id) →
    (s.join.candidates.map Candidate.id).Nodup →
    ∀ (older younger : List Candidate) (c : Candidate),
      ((∃ x, s.join.candidates = older ++ x :: younger ∧ x.id = id ∧
          c = ⟨id, e.channel, x.firstHeard, e.frame, e.telegram.pressureCode, e.telegram.temperatureCode,
            x.triggerSeen || e.telegram.flags.trigger⟩) ∨
        (s.join.candidates = older ∧ younger = [] ∧ older.length < 8 ∧ (∀ x ∈ older, x.id ≠ id) ∧
          c = ⟨id, e.channel, e.frame, e.frame, e.telegram.pressureCode, e.telegram.temperatureCode,
            e.telegram.flags.trigger⟩)) →
      ∃ t, exec .joinCompletion s = exec .assessmentStart t ∧ (s.queue = [] → exec .joinCompletion s = .next t) ∧
        t = { s with engine := .idle, join := t.join, positions := t.positions, store := t.store, conds := t.conds } ∧
        t.join.filters = s.join.filters ∧ t.join.reoffers = s.join.reoffers ∧ t.store.reply = s.store.reply ∧
        t.store.readings = s.store.readings ∧ t.conds.mask = s.conds.mask ∧
        ((∃ x ∈ s.join.candidates, x.id = id) → t.store = s.store ∧ t.conds = s.conds) ∧
        ((∀ x ∈ s.join.candidates, x.id ≠ id) → s.store.entries.length < 8 → t.conds = s.conds ∧
          t.store.entries.map (fun e => (e.notice, e.priority)) = s.store.entries.map (fun e => (e.notice, e.priority)) ++
            [(.candidate id e.channel e.telegram.flags.trigger e.telegram.pressureCode e.telegram.temperatureCode, 5)]) ∧
        ((e.telegram.flags.trigger = false ∨ ∀ r ∈ s.positions, r.state ≠ .learning) →
          t.positions = s.positions ∧ t.join.candidates = older ++ c :: younger) ∧
        (∀ p < 32, e.telegram.flags.trigger = true → (s.pos p).state = .learning →
          (∀ q < p, (s.pos q).state ≠ .learning) →
          t.join.candidates = older ++ younger ∧ t.positions = s.positions.set p { s.pos p with
            state := .offered, sensorId := some id, stateEntry := s.seq.frameNumber, offer := some ⟨6, c⟩, learn := none })

/-! ## Invariants -/

/-- Every list of the part keeps its capacity at every step, the offers of the beacon and the payload of the frame in assembly
among them. -/
def Obligations.StepKeepsCapacities : Prop :=
  ∀ s t : State, s.Capacities → step s = .next t → t.Capacities

/-- LAMP and ATTN say what R123 and R147 say, after every step. -/
def Obligations.StepKeepsLines : Prop :=
  ∀ s t : State, s.LinesTrue → step s = .next t → t.LinesTrue

/-- The transmitter, the reply buffer, the SENDING entry and the frame on TXD belong together, after every step. -/
def Obligations.StepKeepsTransmitter : Prop :=
  ∀ s t : State, s.TransmitterSound → step s = .next t → t.TransmitterSound

/-- Every value that a table of the manual bounds stays in its range at every step: records with their windows and counts, axle
plan, limits, queue entries, the assessment in flight with all it captured, kind settings, frame sequencer, priority numbers,
host-silence limit. The disagree counts, whose bound the kind settings give, are in StepKeepsModeAndCounts. -/
def Obligations.StepKeepsRanges : Prop :=
  ∀ s t : State, s.InRange → step s = .next t → t.InRange

/-- The laws of the bindings hold after every step: the fields suit the state, no ID is held twice, no candidate is listed
twice or held, at most four bindings are pending and one position learns. -/
def Obligations.StepKeepsBindings : Prop :=
  ∀ s t : State, s.BindingsSound → step s = .next t → t.BindingsSound

/-- The life of a mode: with sound bindings, CONFIG stays quiet and every other mode runs a frame, and every disagree count
stays below its confirm count, after every step. -/
def Obligations.StepKeepsModeAndCounts : Prop :=
  ∀ s t : State, s.BindingsSound ∧ s.ModeSound ∧ s.CountsBelow → step s = .next t → t.ModeSound ∧ t.CountsBelow

/-- A position is ABSENT exactly when its axle entry leaves it unfitted, after every step. -/
def Obligations.StepKeepsFittedness : Prop :=
  ∀ s t : State, s.FittedExactly → step s = .next t → t.FittedExactly

/-- An idle engine leaves no entry waiting, and no position has two waiting READING notices, after every step. -/
def Obligations.StepKeepsQueueAndReadings : Prop :=
  (∀ s t : State, s.EngineEager → step s = .next t → t.EngineEager) ∧
  (∀ s t : State, s.ReadingsSingle → step s = .next t → t.ReadingsSingle)

/-- Every invariant holds of the state after reset. -/
def Obligations.ResetMeetsInvariants : Prop :=
  State.reset.Capacities ∧ State.reset.LinesTrue ∧ State.reset.TransmitterSound ∧ State.reset.InRange ∧
    State.reset.BindingsSound ∧ State.reset.ModeSound ∧ State.reset.CountsBelow ∧ State.reset.FittedExactly ∧
    State.reset.EngineEager ∧ State.reset.ReadingsSingle
end

