-- ==== Sys2Proof/Laws/State.lean ====
section
/-! SUPPORT. One lemma per field per update of the state: what each direct update leaves as it was. -/

namespace Sys2Proof.Machine

/-! ## The record of a position -/

@[simp] theorem State.setPos_resetLow (s : State) (p : Nat) (r : Position) : (s.setPos p r).resetLow = s.resetLow := rfl
@[simp] theorem State.setPos_seq (s : State) (p : Nat) (r : Position) : (s.setPos p r).seq = s.seq := rfl
@[simp] theorem State.setPos_link (s : State) (p : Nat) (r : Position) : (s.setPos p r).link = s.link := rfl
@[simp] theorem State.setPos_join (s : State) (p : Nat) (r : Position) : (s.setPos p r).join = s.join := rfl
@[simp] theorem State.setPos_axles (s : State) (p : Nat) (r : Position) : (s.setPos p r).axles = s.axles := rfl
@[simp] theorem State.setPos_queue (s : State) (p : Nat) (r : Position) : (s.setPos p r).queue = s.queue := rfl
@[simp] theorem State.setPos_engine (s : State) (p : Nat) (r : Position) : (s.setPos p r).engine = s.engine := rfl
@[simp] theorem State.setPos_config (s : State) (p : Nat) (r : Position) : (s.setPos p r).config = s.config := rfl
@[simp] theorem State.setPos_kinds (s : State) (p : Nat) (r : Position) : (s.setPos p r).kinds = s.kinds := rfl
@[simp] theorem State.setPos_lamp (s : State) (p : Nat) (r : Position) : (s.setPos p r).lamp = s.lamp := rfl
@[simp] theorem State.setPos_conds (s : State) (p : Nat) (r : Position) : (s.setPos p r).conds = s.conds := rfl
@[simp] theorem State.setPos_store (s : State) (p : Nat) (r : Position) : (s.setPos p r).store = s.store := rfl
@[simp] theorem State.setPos_port (s : State) (p : Nat) (r : Position) : (s.setPos p r).port = s.port := rfl
@[simp] theorem State.setPos_modes (s : State) (p : Nat) (r : Position) : (s.setPos p r).modes = s.modes := rfl
@[simp] theorem State.setPos_joinWork (s : State) (p : Nat) (r : Position) : (s.setPos p r).joinWork = s.joinWork := rfl
@[simp] theorem State.setPos_pending (s : State) (p : Nat) (r : Position) : (s.setPos p r).pending = s.pending := rfl
@[simp] theorem State.setPos_positions (s : State) (p : Nat) (r : Position) :
    (s.setPos p r).positions = s.positions.set p r := rfl

/-! ## A sub-record of a position -/

@[simp] theorem State.setAlarm_resetLow (s : State) (p : Nat) (k : Kind) (a : SubRecord) :
    (s.setAlarm p k a).resetLow = s.resetLow := rfl
@[simp] theorem State.setAlarm_seq (s : State) (p : Nat) (k : Kind) (a : SubRecord) :
    (s.setAlarm p k a).seq = s.seq := rfl
@[simp] theorem State.setAlarm_link (s : State) (p : Nat) (k : Kind) (a : SubRecord) :
    (s.setAlarm p k a).link = s.link := rfl
@[simp] theorem State.setAlarm_join (s : State) (p : Nat) (k : Kind) (a : SubRecord) :
    (s.setAlarm p k a).join = s.join := rfl
@[simp] theorem State.setAlarm_axles (s : State) (p : Nat) (k : Kind) (a : SubRecord) :
    (s.setAlarm p k a).axles = s.axles := rfl
@[simp] theorem State.setAlarm_queue (s : State) (p : Nat) (k : Kind) (a : SubRecord) :
    (s.setAlarm p k a).queue = s.queue := rfl
@[simp] theorem State.setAlarm_engine (s : State) (p : Nat) (k : Kind) (a : SubRecord) :
    (s.setAlarm p k a).engine = s.engine := rfl
@[simp] theorem State.setAlarm_config (s : State) (p : Nat) (k : Kind) (a : SubRecord) :
    (s.setAlarm p k a).config = s.config := rfl
@[simp] theorem State.setAlarm_kinds (s : State) (p : Nat) (k : Kind) (a : SubRecord) :
    (s.setAlarm p k a).kinds = s.kinds := rfl
@[simp] theorem State.setAlarm_lamp (s : State) (p : Nat) (k : Kind) (a : SubRecord) :
    (s.setAlarm p k a).lamp = s.lamp := rfl
@[simp] theorem State.setAlarm_conds (s : State) (p : Nat) (k : Kind) (a : SubRecord) :
    (s.setAlarm p k a).conds = s.conds := rfl
@[simp] theorem State.setAlarm_store (s : State) (p : Nat) (k : Kind) (a : SubRecord) :
    (s.setAlarm p k a).store = s.store := rfl
@[simp] theorem State.setAlarm_port (s : State) (p : Nat) (k : Kind) (a : SubRecord) :
    (s.setAlarm p k a).port = s.port := rfl
@[simp] theorem State.setAlarm_modes (s : State) (p : Nat) (k : Kind) (a : SubRecord) :
    (s.setAlarm p k a).modes = s.modes := rfl
@[simp] theorem State.setAlarm_joinWork (s : State) (p : Nat) (k : Kind) (a : SubRecord) :
    (s.setAlarm p k a).joinWork = s.joinWork := rfl
@[simp] theorem State.setAlarm_pending (s : State) (p : Nat) (k : Kind) (a : SubRecord) :
    (s.setAlarm p k a).pending = s.pending := rfl

/-! ## The lists of the join controller -/

@[simp] theorem State.setCandidates_resetLow (s : State) (cs : List Candidate) :
    (s.setCandidates cs).resetLow = s.resetLow := rfl
@[simp] theorem State.setCandidates_seq (s : State) (cs : List Candidate) : (s.setCandidates cs).seq = s.seq := rfl
@[simp] theorem State.setCandidates_link (s : State) (cs : List Candidate) : (s.setCandidates cs).link = s.link := rfl
@[simp] theorem State.setCandidates_axles (s : State) (cs : List Candidate) :
    (s.setCandidates cs).axles = s.axles := rfl
@[simp] theorem State.setCandidates_positions (s : State) (cs : List Candidate) :
    (s.setCandidates cs).positions = s.positions := rfl
@[simp] theorem State.setCandidates_queue (s : State) (cs : List Candidate) :
    (s.setCandidates cs).queue = s.queue := rfl
@[simp] theorem State.setCandidates_engine (s : State) (cs : List Candidate) :
    (s.setCandidates cs).engine = s.engine := rfl
@[simp] theorem State.setCandidates_config (s : State) (cs : List Candidate) :
    (s.setCandidates cs).config = s.config := rfl
@[simp] theorem State.setCandidates_kinds (s : State) (cs : List Candidate) :
    (s.setCandidates cs).kinds = s.kinds := rfl
@[simp] theorem State.setCandidates_lamp (s : State) (cs : List Candidate) : (s.setCandidates cs).lamp = s.lamp := rfl
@[simp] theorem State.setCandidates_conds (s : State) (cs : List Candidate) :
    (s.setCandidates cs).conds = s.conds := rfl
@[simp] theorem State.setCandidates_store (s : State) (cs : List Candidate) :
    (s.setCandidates cs).store = s.store := rfl
@[simp] theorem State.setCandidates_port (s : State) (cs : List Candidate) : (s.setCandidates cs).port = s.port := rfl
@[simp] theorem State.setCandidates_modes (s : State) (cs : List Candidate) :
    (s.setCandidates cs).modes = s.modes := rfl
@[simp] theorem State.setCandidates_joinWork (s : State) (cs : List Candidate) :
    (s.setCandidates cs).joinWork = s.joinWork := rfl
@[simp] theorem State.setCandidates_pending (s : State) (cs : List Candidate) :
    (s.setCandidates cs).pending = s.pending := rfl
@[simp] theorem State.setCandidates_join (s : State) (cs : List Candidate) :
    (s.setCandidates cs).join = { s.join with candidates := cs } := rfl
@[simp] theorem State.setReoffers_resetLow (s : State) (ids : List SensorId) :
    (s.setReoffers ids).resetLow = s.resetLow := rfl
@[simp] theorem State.setReoffers_seq (s : State) (ids : List SensorId) : (s.setReoffers ids).seq = s.seq := rfl
@[simp] theorem State.setReoffers_link (s : State) (ids : List SensorId) : (s.setReoffers ids).link = s.link := rfl
@[simp] theorem State.setReoffers_axles (s : State) (ids : List SensorId) : (s.setReoffers ids).axles = s.axles := rfl
@[simp] theorem State.setReoffers_positions (s : State) (ids : List SensorId) :
    (s.setReoffers ids).positions = s.positions := rfl
@[simp] theorem State.setReoffers_queue (s : State) (ids : List SensorId) : (s.setReoffers ids).queue = s.queue := rfl
@[simp] theorem State.setReoffers_engine (s : State) (ids : List SensorId) :
    (s.setReoffers ids).engine = s.engine := rfl
@[simp] theorem State.setReoffers_config (s : State) (ids : List SensorId) :
    (s.setReoffers ids).config = s.config := rfl
@[simp] theorem State.setReoffers_kinds (s : State) (ids : List SensorId) : (s.setReoffers ids).kinds = s.kinds := rfl
@[simp] theorem State.setReoffers_lamp (s : State) (ids : List SensorId) : (s.setReoffers ids).lamp = s.lamp := rfl
@[simp] theorem State.setReoffers_conds (s : State) (ids : List SensorId) : (s.setReoffers ids).conds = s.conds := rfl
@[simp] theorem State.setReoffers_store (s : State) (ids : List SensorId) : (s.setReoffers ids).store = s.store := rfl
@[simp] theorem State.setReoffers_port (s : State) (ids : List SensorId) : (s.setReoffers ids).port = s.port := rfl
@[simp] theorem State.setReoffers_modes (s : State) (ids : List SensorId) : (s.setReoffers ids).modes = s.modes := rfl
@[simp] theorem State.setReoffers_joinWork (s : State) (ids : List SensorId) :
    (s.setReoffers ids).joinWork = s.joinWork := rfl
@[simp] theorem State.setReoffers_pending (s : State) (ids : List SensorId) :
    (s.setReoffers ids).pending = s.pending := rfl
@[simp] theorem State.setReoffers_join (s : State) (ids : List SensorId) :
    (s.setReoffers ids).join = { s.join with reoffers := ids } := rfl

/-! ## A withdrawal -/

@[simp] theorem State.withdraw_resetLow (s : State) (f : Notice → Bool) : (s.withdraw f).resetLow = s.resetLow := rfl
@[simp] theorem State.withdraw_seq (s : State) (f : Notice → Bool) : (s.withdraw f).seq = s.seq := rfl
@[simp] theorem State.withdraw_link (s : State) (f : Notice → Bool) : (s.withdraw f).link = s.link := rfl
@[simp] theorem State.withdraw_join (s : State) (f : Notice → Bool) : (s.withdraw f).join = s.join := rfl
@[simp] theorem State.withdraw_axles (s : State) (f : Notice → Bool) : (s.withdraw f).axles = s.axles := rfl
@[simp] theorem State.withdraw_positions (s : State) (f : Notice → Bool) : (s.withdraw f).positions = s.positions := rfl
@[simp] theorem State.withdraw_queue (s : State) (f : Notice → Bool) : (s.withdraw f).queue = s.queue := rfl
@[simp] theorem State.withdraw_engine (s : State) (f : Notice → Bool) : (s.withdraw f).engine = s.engine := rfl
@[simp] theorem State.withdraw_config (s : State) (f : Notice → Bool) : (s.withdraw f).config = s.config := rfl
@[simp] theorem State.withdraw_kinds (s : State) (f : Notice → Bool) : (s.withdraw f).kinds = s.kinds := rfl
@[simp] theorem State.withdraw_lamp (s : State) (f : Notice → Bool) : (s.withdraw f).lamp = s.lamp := rfl
@[simp] theorem State.withdraw_conds (s : State) (f : Notice → Bool) : (s.withdraw f).conds = s.conds := rfl
@[simp] theorem State.withdraw_port (s : State) (f : Notice → Bool) : (s.withdraw f).port = s.port := rfl
@[simp] theorem State.withdraw_modes (s : State) (f : Notice → Bool) : (s.withdraw f).modes = s.modes := rfl
@[simp] theorem State.withdraw_joinWork (s : State) (f : Notice → Bool) : (s.withdraw f).joinWork = s.joinWork := rfl
@[simp] theorem State.withdraw_pending (s : State) (f : Notice → Bool) : (s.withdraw f).pending = s.pending := rfl
@[simp] theorem State.withdraw_store (s : State) (f : Notice → Bool) :
    (s.withdraw f).store = (s.store.withdraw f).1 := rfl

/-! ## The LAMP line -/

@[simp] theorem State.judgeLamp_resetLow (s : State) : (s.judgeLamp).resetLow = s.resetLow := rfl
@[simp] theorem State.judgeLamp_seq (s : State) : (s.judgeLamp).seq = s.seq := rfl
@[simp] theorem State.judgeLamp_link (s : State) : (s.judgeLamp).link = s.link := rfl
@[simp] theorem State.judgeLamp_join (s : State) : (s.judgeLamp).join = s.join := rfl
@[simp] theorem State.judgeLamp_axles (s : State) : (s.judgeLamp).axles = s.axles := rfl
@[simp] theorem State.judgeLamp_positions (s : State) : (s.judgeLamp).positions = s.positions := rfl
@[simp] theorem State.judgeLamp_queue (s : State) : (s.judgeLamp).queue = s.queue := rfl
@[simp] theorem State.judgeLamp_engine (s : State) : (s.judgeLamp).engine = s.engine := rfl
@[simp] theorem State.judgeLamp_config (s : State) : (s.judgeLamp).config = s.config := rfl
@[simp] theorem State.judgeLamp_kinds (s : State) : (s.judgeLamp).kinds = s.kinds := rfl
@[simp] theorem State.judgeLamp_conds (s : State) : (s.judgeLamp).conds = s.conds := rfl
@[simp] theorem State.judgeLamp_store (s : State) : (s.judgeLamp).store = s.store := rfl
@[simp] theorem State.judgeLamp_port (s : State) : (s.judgeLamp).port = s.port := rfl
@[simp] theorem State.judgeLamp_modes (s : State) : (s.judgeLamp).modes = s.modes := rfl
@[simp] theorem State.judgeLamp_joinWork (s : State) : (s.judgeLamp).joinWork = s.joinWork := rfl
@[simp] theorem State.judgeLamp_pending (s : State) : (s.judgeLamp).pending = s.pending := rfl
@[simp] theorem State.judgeLamp_lamp (s : State) : s.judgeLamp.lamp = s.lampRule := rfl

/-! ## The control port -/

@[simp] theorem State.goodFrame_resetLow (s : State) : (s.goodFrame).resetLow = s.resetLow := rfl
@[simp] theorem State.goodFrame_seq (s : State) : (s.goodFrame).seq = s.seq := rfl
@[simp] theorem State.goodFrame_link (s : State) : (s.goodFrame).link = s.link := rfl
@[simp] theorem State.goodFrame_join (s : State) : (s.goodFrame).join = s.join := rfl
@[simp] theorem State.goodFrame_axles (s : State) : (s.goodFrame).axles = s.axles := rfl
@[simp] theorem State.goodFrame_positions (s : State) : (s.goodFrame).positions = s.positions := rfl
@[simp] theorem State.goodFrame_queue (s : State) : (s.goodFrame).queue = s.queue := rfl
@[simp] theorem State.goodFrame_engine (s : State) : (s.goodFrame).engine = s.engine := rfl
@[simp] theorem State.goodFrame_config (s : State) : (s.goodFrame).config = s.config := rfl
@[simp] theorem State.goodFrame_kinds (s : State) : (s.goodFrame).kinds = s.kinds := rfl
@[simp] theorem State.goodFrame_conds (s : State) : (s.goodFrame).conds = s.conds := rfl
@[simp] theorem State.goodFrame_store (s : State) : (s.goodFrame).store = s.store := rfl
@[simp] theorem State.goodFrame_modes (s : State) : (s.goodFrame).modes = s.modes := rfl
@[simp] theorem State.goodFrame_joinWork (s : State) : (s.goodFrame).joinWork = s.joinWork := rfl
@[simp] theorem State.goodFrame_pending (s : State) : (s.goodFrame).pending = s.pending := rfl
@[simp] theorem State.abandon_resetLow (s : State) : (s.abandon).resetLow = s.resetLow := rfl
@[simp] theorem State.abandon_seq (s : State) : (s.abandon).seq = s.seq := rfl
@[simp] theorem State.abandon_link (s : State) : (s.abandon).link = s.link := rfl
@[simp] theorem State.abandon_join (s : State) : (s.abandon).join = s.join := rfl
@[simp] theorem State.abandon_axles (s : State) : (s.abandon).axles = s.axles := rfl
@[simp] theorem State.abandon_positions (s : State) : (s.abandon).positions = s.positions := rfl
@[simp] theorem State.abandon_queue (s : State) : (s.abandon).queue = s.queue := rfl
@[simp] theorem State.abandon_engine (s : State) : (s.abandon).engine = s.engine := rfl
@[simp] theorem State.abandon_config (s : State) : (s.abandon).config = s.config := rfl
@[simp] theorem State.abandon_kinds (s : State) : (s.abandon).kinds = s.kinds := rfl
@[simp] theorem State.abandon_lamp (s : State) : (s.abandon).lamp = s.lamp := rfl
@[simp] theorem State.abandon_conds (s : State) : (s.abandon).conds = s.conds := rfl
@[simp] theorem State.abandon_store (s : State) : (s.abandon).store = s.store := rfl
@[simp] theorem State.abandon_modes (s : State) : (s.abandon).modes = s.modes := rfl
@[simp] theorem State.abandon_joinWork (s : State) : (s.abandon).joinWork = s.joinWork := rfl
@[simp] theorem State.abandon_pending (s : State) : (s.abandon).pending = s.pending := rfl
@[simp] theorem State.assemble_resetLow (s : State) (r : Receiver) : (s.assemble r).resetLow = s.resetLow := rfl
@[simp] theorem State.assemble_seq (s : State) (r : Receiver) : (s.assemble r).seq = s.seq := rfl
@[simp] theorem State.assemble_link (s : State) (r : Receiver) : (s.assemble r).link = s.link := rfl
@[simp] theorem State.assemble_join (s : State) (r : Receiver) : (s.assemble r).join = s.join := rfl
@[simp] theorem State.assemble_axles (s : State) (r : Receiver) : (s.assemble r).axles = s.axles := rfl
@[simp] theorem State.assemble_positions (s : State) (r : Receiver) : (s.assemble r).positions = s.positions := rfl
@[simp] theorem State.assemble_queue (s : State) (r : Receiver) : (s.assemble r).queue = s.queue := rfl
@[simp] theorem State.assemble_engine (s : State) (r : Receiver) : (s.assemble r).engine = s.engine := rfl
@[simp] theorem State.assemble_config (s : State) (r : Receiver) : (s.assemble r).config = s.config := rfl
@[simp] theorem State.assemble_kinds (s : State) (r : Receiver) : (s.assemble r).kinds = s.kinds := rfl
@[simp] theorem State.assemble_lamp (s : State) (r : Receiver) : (s.assemble r).lamp = s.lamp := rfl
@[simp] theorem State.assemble_conds (s : State) (r : Receiver) : (s.assemble r).conds = s.conds := rfl
@[simp] theorem State.assemble_store (s : State) (r : Receiver) : (s.assemble r).store = s.store := rfl
@[simp] theorem State.assemble_modes (s : State) (r : Receiver) : (s.assemble r).modes = s.modes := rfl
@[simp] theorem State.assemble_joinWork (s : State) (r : Receiver) : (s.assemble r).joinWork = s.joinWork := rfl
@[simp] theorem State.assemble_pending (s : State) (r : Receiver) : (s.assemble r).pending = s.pending := rfl

/-! ## A change of mode -/

@[simp] theorem State.emptyWindows_resetLow (s : State) : (s.emptyWindows).resetLow = s.resetLow := rfl
@[simp] theorem State.emptyWindows_seq (s : State) : (s.emptyWindows).seq = s.seq := rfl
@[simp] theorem State.emptyWindows_link (s : State) : (s.emptyWindows).link = s.link := rfl
@[simp] theorem State.emptyWindows_join (s : State) : (s.emptyWindows).join = s.join := rfl
@[simp] theorem State.emptyWindows_axles (s : State) : (s.emptyWindows).axles = s.axles := rfl
@[simp] theorem State.emptyWindows_queue (s : State) : (s.emptyWindows).queue = s.queue := rfl
@[simp] theorem State.emptyWindows_config (s : State) : (s.emptyWindows).config = s.config := rfl
@[simp] theorem State.emptyWindows_kinds (s : State) : (s.emptyWindows).kinds = s.kinds := rfl
@[simp] theorem State.emptyWindows_lamp (s : State) : (s.emptyWindows).lamp = s.lamp := rfl
@[simp] theorem State.emptyWindows_conds (s : State) : (s.emptyWindows).conds = s.conds := rfl
@[simp] theorem State.emptyWindows_store (s : State) : (s.emptyWindows).store = s.store := rfl
@[simp] theorem State.emptyWindows_port (s : State) : (s.emptyWindows).port = s.port := rfl
@[simp] theorem State.emptyWindows_modes (s : State) : (s.emptyWindows).modes = s.modes := rfl
@[simp] theorem State.emptyWindows_joinWork (s : State) : (s.emptyWindows).joinWork = s.joinWork := rfl
@[simp] theorem State.emptyWindows_pending (s : State) : (s.emptyWindows).pending = s.pending := rfl
@[simp] theorem State.enterMode_resetLow (s : State) (m : Mode) : (s.enterMode m).resetLow = s.resetLow := rfl
@[simp] theorem State.enterMode_seq (s : State) (m : Mode) : (s.enterMode m).seq = s.seq := rfl
@[simp] theorem State.enterMode_link (s : State) (m : Mode) : (s.enterMode m).link = s.link := rfl
@[simp] theorem State.enterMode_join (s : State) (m : Mode) : (s.enterMode m).join = s.join := rfl
@[simp] theorem State.enterMode_axles (s : State) (m : Mode) : (s.enterMode m).axles = s.axles := rfl
@[simp] theorem State.enterMode_positions (s : State) (m : Mode) : (s.enterMode m).positions = s.positions := rfl
@[simp] theorem State.enterMode_queue (s : State) (m : Mode) : (s.enterMode m).queue = s.queue := rfl
@[simp] theorem State.enterMode_engine (s : State) (m : Mode) : (s.enterMode m).engine = s.engine := rfl
@[simp] theorem State.enterMode_config (s : State) (m : Mode) : (s.enterMode m).config = s.config := rfl
@[simp] theorem State.enterMode_kinds (s : State) (m : Mode) : (s.enterMode m).kinds = s.kinds := rfl
@[simp] theorem State.enterMode_conds (s : State) (m : Mode) : (s.enterMode m).conds = s.conds := rfl
@[simp] theorem State.enterMode_store (s : State) (m : Mode) : (s.enterMode m).store = s.store := rfl
@[simp] theorem State.enterMode_joinWork (s : State) (m : Mode) : (s.enterMode m).joinWork = s.joinWork := rfl
@[simp] theorem State.enterMode_pending (s : State) (m : Mode) : (s.enterMode m).pending = s.pending := rfl
@[simp] theorem State.reenterAssigned_resetLow (s : State) : (s.reenterAssigned).resetLow = s.resetLow := rfl
@[simp] theorem State.reenterAssigned_seq (s : State) : (s.reenterAssigned).seq = s.seq := rfl
@[simp] theorem State.reenterAssigned_link (s : State) : (s.reenterAssigned).link = s.link := rfl
@[simp] theorem State.reenterAssigned_join (s : State) : (s.reenterAssigned).join = s.join := rfl
@[simp] theorem State.reenterAssigned_axles (s : State) : (s.reenterAssigned).axles = s.axles := rfl
@[simp] theorem State.reenterAssigned_queue (s : State) : (s.reenterAssigned).queue = s.queue := rfl
@[simp] theorem State.reenterAssigned_engine (s : State) : (s.reenterAssigned).engine = s.engine := rfl
@[simp] theorem State.reenterAssigned_config (s : State) : (s.reenterAssigned).config = s.config := rfl
@[simp] theorem State.reenterAssigned_kinds (s : State) : (s.reenterAssigned).kinds = s.kinds := rfl
@[simp] theorem State.reenterAssigned_lamp (s : State) : (s.reenterAssigned).lamp = s.lamp := rfl
@[simp] theorem State.reenterAssigned_conds (s : State) : (s.reenterAssigned).conds = s.conds := rfl
@[simp] theorem State.reenterAssigned_store (s : State) : (s.reenterAssigned).store = s.store := rfl
@[simp] theorem State.reenterAssigned_port (s : State) : (s.reenterAssigned).port = s.port := rfl
@[simp] theorem State.reenterAssigned_modes (s : State) : (s.reenterAssigned).modes = s.modes := rfl
@[simp] theorem State.reenterAssigned_joinWork (s : State) : (s.reenterAssigned).joinWork = s.joinWork := rfl
@[simp] theorem State.reenterAssigned_pending (s : State) : (s.reenterAssigned).pending = s.pending := rfl

/-! ## The assessment engine -/

@[simp] theorem State.start_resetLow (s : State) (e : QueueEntry) : (s.start e).resetLow = s.resetLow := rfl
@[simp] theorem State.start_seq (s : State) (e : QueueEntry) : (s.start e).seq = s.seq := rfl
@[simp] theorem State.start_link (s : State) (e : QueueEntry) : (s.start e).link = s.link := rfl
@[simp] theorem State.start_join (s : State) (e : QueueEntry) : (s.start e).join = s.join := rfl
@[simp] theorem State.start_axles (s : State) (e : QueueEntry) : (s.start e).axles = s.axles := rfl
@[simp] theorem State.start_positions (s : State) (e : QueueEntry) : (s.start e).positions = s.positions := rfl
@[simp] theorem State.start_queue (s : State) (e : QueueEntry) : (s.start e).queue = s.queue := rfl
@[simp] theorem State.start_config (s : State) (e : QueueEntry) : (s.start e).config = s.config := rfl
@[simp] theorem State.start_kinds (s : State) (e : QueueEntry) : (s.start e).kinds = s.kinds := rfl
@[simp] theorem State.start_lamp (s : State) (e : QueueEntry) : (s.start e).lamp = s.lamp := rfl
@[simp] theorem State.start_conds (s : State) (e : QueueEntry) : (s.start e).conds = s.conds := rfl
@[simp] theorem State.start_store (s : State) (e : QueueEntry) : (s.start e).store = s.store := rfl
@[simp] theorem State.start_port (s : State) (e : QueueEntry) : (s.start e).port = s.port := rfl
@[simp] theorem State.start_modes (s : State) (e : QueueEntry) : (s.start e).modes = s.modes := rfl
@[simp] theorem State.start_joinWork (s : State) (e : QueueEntry) : (s.start e).joinWork = s.joinWork := rfl
@[simp] theorem State.start_pending (s : State) (e : QueueEntry) : (s.start e).pending = s.pending := rfl
@[simp] theorem State.writeRecord_resetLow (s : State) (e : QueueEntry) (r : Results) :
    (s.writeRecord e r).resetLow = s.resetLow := rfl
@[simp] theorem State.writeRecord_seq (s : State) (e : QueueEntry) (r : Results) :
    (s.writeRecord e r).seq = s.seq := rfl
@[simp] theorem State.writeRecord_link (s : State) (e : QueueEntry) (r : Results) :
    (s.writeRecord e r).link = s.link := rfl
@[simp] theorem State.writeRecord_join (s : State) (e : QueueEntry) (r : Results) :
    (s.writeRecord e r).join = s.join := rfl
@[simp] theorem State.writeRecord_axles (s : State) (e : QueueEntry) (r : Results) :
    (s.writeRecord e r).axles = s.axles := rfl
@[simp] theorem State.writeRecord_queue (s : State) (e : QueueEntry) (r : Results) :
    (s.writeRecord e r).queue = s.queue := rfl
@[simp] theorem State.writeRecord_engine (s : State) (e : QueueEntry) (r : Results) :
    (s.writeRecord e r).engine = s.engine := rfl
@[simp] theorem State.writeRecord_config (s : State) (e : QueueEntry) (r : Results) :
    (s.writeRecord e r).config = s.config := rfl
@[simp] theorem State.writeRecord_kinds (s : State) (e : QueueEntry) (r : Results) :
    (s.writeRecord e r).kinds = s.kinds := rfl
@[simp] theorem State.writeRecord_lamp (s : State) (e : QueueEntry) (r : Results) :
    (s.writeRecord e r).lamp = s.lamp := rfl
@[simp] theorem State.writeRecord_conds (s : State) (e : QueueEntry) (r : Results) :
    (s.writeRecord e r).conds = s.conds := rfl
@[simp] theorem State.writeRecord_store (s : State) (e : QueueEntry) (r : Results) :
    (s.writeRecord e r).store = s.store := rfl
@[simp] theorem State.writeRecord_port (s : State) (e : QueueEntry) (r : Results) :
    (s.writeRecord e r).port = s.port := rfl
@[simp] theorem State.writeRecord_modes (s : State) (e : QueueEntry) (r : Results) :
    (s.writeRecord e r).modes = s.modes := rfl
@[simp] theorem State.writeRecord_joinWork (s : State) (e : QueueEntry) (r : Results) :
    (s.writeRecord e r).joinWork = s.joinWork := rfl
@[simp] theorem State.writeRecord_pending (s : State) (e : QueueEntry) (r : Results) :
    (s.writeRecord e r).pending = s.pending := rfl

/-! ## The reply -/

@[simp] theorem State.reply_resetLow (s : State) (kind : Byte) (a : Answer) :
    (s.reply kind a).resetLow = s.resetLow := rfl
@[simp] theorem State.reply_seq (s : State) (kind : Byte) (a : Answer) : (s.reply kind a).seq = s.seq := rfl
@[simp] theorem State.reply_link (s : State) (kind : Byte) (a : Answer) : (s.reply kind a).link = s.link := rfl
@[simp] theorem State.reply_join (s : State) (kind : Byte) (a : Answer) : (s.reply kind a).join = s.join := rfl
@[simp] theorem State.reply_axles (s : State) (kind : Byte) (a : Answer) : (s.reply kind a).axles = s.axles := rfl
@[simp] theorem State.reply_positions (s : State) (kind : Byte) (a : Answer) :
    (s.reply kind a).positions = s.positions := rfl
@[simp] theorem State.reply_queue (s : State) (kind : Byte) (a : Answer) : (s.reply kind a).queue = s.queue := rfl
@[simp] theorem State.reply_engine (s : State) (kind : Byte) (a : Answer) : (s.reply kind a).engine = s.engine := rfl
@[simp] theorem State.reply_config (s : State) (kind : Byte) (a : Answer) : (s.reply kind a).config = s.config := rfl
@[simp] theorem State.reply_kinds (s : State) (kind : Byte) (a : Answer) : (s.reply kind a).kinds = s.kinds := rfl
@[simp] theorem State.reply_lamp (s : State) (kind : Byte) (a : Answer) : (s.reply kind a).lamp = s.lamp := rfl
@[simp] theorem State.reply_conds (s : State) (kind : Byte) (a : Answer) : (s.reply kind a).conds = s.conds := rfl
@[simp] theorem State.reply_port (s : State) (kind : Byte) (a : Answer) : (s.reply kind a).port = s.port := rfl
@[simp] theorem State.reply_modes (s : State) (kind : Byte) (a : Answer) : (s.reply kind a).modes = s.modes := rfl
@[simp] theorem State.reply_joinWork (s : State) (kind : Byte) (a : Answer) :
    (s.reply kind a).joinWork = s.joinWork := rfl
@[simp] theorem State.reply_pending (s : State) (kind : Byte) (a : Answer) : (s.reply kind a).pending = s.pending := rfl

/-! ## The store -/

@[simp] theorem NoticeStore.withEntries_entries (st : NoticeStore) (es : List Entry) : (st.withEntries es).entries = es := rfl
@[simp] theorem NoticeStore.withEntries_attn (st : NoticeStore) (es : List Entry) : (st.withEntries es).attn = !es.isEmpty := rfl
@[simp] theorem NoticeStore.withEntries_reply (st : NoticeStore) (es : List Entry) : (st.withEntries es).reply = st.reply := rfl
@[simp] theorem NoticeStore.withEntries_transmitter (st : NoticeStore) (es : List Entry) :
    (st.withEntries es).transmitter = st.transmitter := rfl
@[simp] theorem NoticeStore.withEntries_txd (st : NoticeStore) (es : List Entry) : (st.withEntries es).txd = st.txd := rfl
@[simp] theorem NoticeStore.withEntries_readings (st : NoticeStore) (es : List Entry) :
    (st.withEntries es).readings = st.readings := rfl

end Sys2Proof.Machine
end

