-- ==== Sys2Proof/Laws/Ops.lean ====
section
/-! SUPPORT. For each shared operation, one lemma that says all it can do, and the fields it leaves. -/

namespace Sys2Proof.Machine

/-! ## The notice store -/

/-- Choosing a message changes the transmitter, the line and the marks of the entries, and nothing else (R145). -/
theorem NoticeStore.choose_cases (st : NoticeStore) :
    (∃ r, st.reply = .holding r ∧ st.choose = { st with transmitter := .sendingReply, txd := r.frame }) ∨
    ((∀ r, st.reply ≠ .holding r) ∧ ∃ e, nextWaiting st.entries = some e ∧
      st.choose = { st with entries := markSending e.priority st.entries, transmitter := .sendingNotice
                            txd := e.notice.frame }) ∨
    ((∀ r, st.reply ≠ .holding r) ∧ nextWaiting st.entries = none ∧ st.choose = { st with transmitter := .idle, txd := [] }) := by
  unfold NoticeStore.choose
  cases hr : st.reply with
  | holding r => exact .inl ⟨r, rfl, rfl⟩
  | empty =>
    cases hn : nextWaiting st.entries with
    | some e => exact .inr (.inl ⟨by simp, e, rfl, rfl⟩)
    | none => exact .inr (.inr ⟨by simp, rfl, rfl⟩)
  | forming =>
    cases hn : nextWaiting st.entries with
    | some e => exact .inr (.inl ⟨by simp, e, rfl, rfl⟩)
    | none => exact .inr (.inr ⟨by simp, rfl, rfl⟩)

@[simp] theorem markSending_length (n : Nat) (es : List Entry) : (markSending n es).length = es.length := by
  induction es with
  | nil => rfl
  | cons e es ih => unfold markSending; split <;> simp [ih]

@[simp] theorem markSending_isEmpty (n : Nat) (es : List Entry) : (markSending n es).isEmpty = es.isEmpty := by
  cases es with
  | nil => rfl
  | cons e es => unfold markSending; split <;> rfl

/-- Marking keeps every entry's notice and priority in its place. -/
theorem markSending_notices (n : Nat) (es : List Entry) :
    (markSending n es).map (fun e => (e.notice, e.priority)) = es.map (fun e => (e.notice, e.priority)) := by
  induction es with
  | nil => rfl
  | cons e es ih => unfold markSending; split <;> simp [ih]

/-- The entry chosen next waits, and is in the store (R145). -/
theorem nextWaiting_mem {es : List Entry} {e : Entry} (h : nextWaiting es = some e) : e ∈ es ∧ e.waits = true := by
  induction es with
  | nil => simp [nextWaiting] at h
  | cons a es ih =>
    unfold nextWaiting at h
    split at h
    · split at h
      · split at h
        · cases h; rename_i f hf _; exact ⟨List.mem_cons_of_mem _ (ih hf).1, (ih hf).2⟩
        · cases h; exact ⟨List.mem_cons_self, by assumption⟩
      · cases h; exact ⟨List.mem_cons_self, by assumption⟩
    · exact ⟨List.mem_cons_of_mem _ (ih h).1, (ih h).2⟩

/-- No entry is chosen exactly when none waits (R145). -/
theorem nextWaiting_eq_none {es : List Entry} : nextWaiting es = none ↔ ∀ e ∈ es, e.waits = false := by
  induction es with
  | nil => simp [nextWaiting]
  | cons a es ih =>
    unfold nextWaiting
    by_cases ha : a.waits = true
    · rw [if_pos ha]
      constructor
      · intro h; split at h
        · split at h <;> cases h
        · cases h
      · intro h; simp [ha] at h
    · simp only [ha]; simp [ih]; intro _; simpa using ha

@[simp] theorem NoticeStore.choose_reply (st : NoticeStore) : st.choose.reply = st.reply := by
  rcases st.choose_cases with ⟨r, _, h⟩ | ⟨_, e, _, h⟩ | ⟨_, _, h⟩ <;> rw [h]
@[simp] theorem NoticeStore.choose_attn (st : NoticeStore) : st.choose.attn = st.attn := by
  rcases st.choose_cases with ⟨r, _, h⟩ | ⟨_, e, _, h⟩ | ⟨_, _, h⟩ <;> rw [h]
@[simp] theorem NoticeStore.choose_readings (st : NoticeStore) : st.choose.readings = st.readings := by
  rcases st.choose_cases with ⟨r, _, h⟩ | ⟨_, e, _, h⟩ | ⟨_, _, h⟩ <;> rw [h]
@[simp] theorem NoticeStore.choose_entries_length (st : NoticeStore) : st.choose.entries.length = st.entries.length := by
  rcases st.choose_cases with ⟨r, _, h⟩ | ⟨_, e, _, h⟩ | ⟨_, _, h⟩ <;> rw [h] <;> simp
@[simp] theorem NoticeStore.choose_entries_isEmpty (st : NoticeStore) : st.choose.entries.isEmpty = st.entries.isEmpty := by
  rcases st.choose_cases with ⟨r, _, h⟩ | ⟨_, e, _, h⟩ | ⟨_, _, h⟩ <;> rw [h] <;> simp

/-- A notice that enters is the youngest entry and is chosen at once when the line and the reply buffer are free (R141). -/
theorem NoticeStore.enter_cases (st : NoticeStore) (n : Notice) (p : Nat) :
    (st.transmitter = .idle ∧ st.reply = .empty ∧
      st.enter n p = (st.withEntries (st.entries ++ [⟨n, p, .waiting⟩])).choose) ∨
    (¬(st.transmitter = .idle ∧ st.reply = .empty) ∧ st.enter n p = st.withEntries (st.entries ++ [⟨n, p, .waiting⟩])) := by
  unfold NoticeStore.enter NoticeStore.chooseIfIdle
  by_cases h : st.transmitter = .idle ∧ st.reply = .empty
  · exact .inl ⟨h.1, h.2, by simp [h.1, h.2]⟩
  · refine .inr ⟨h, if_neg ?_⟩
    simpa using h

@[simp] theorem NoticeStore.enter_reply (st : NoticeStore) (n : Notice) (p : Nat) : (st.enter n p).reply = st.reply := by
  rcases st.enter_cases n p with ⟨_, _, h⟩ | ⟨_, h⟩ <;> rw [h] <;> simp
@[simp] theorem NoticeStore.enter_readings (st : NoticeStore) (n : Notice) (p : Nat) :
    (st.enter n p).readings = st.readings := by
  rcases st.enter_cases n p with ⟨_, _, h⟩ | ⟨_, h⟩ <;> rw [h] <;> simp
@[simp] theorem NoticeStore.enter_attn (st : NoticeStore) (n : Notice) (p : Nat) : (st.enter n p).attn = true := by
  rcases st.enter_cases n p with ⟨_, _, h⟩ | ⟨_, h⟩ <;> rw [h] <;> simp
@[simp] theorem NoticeStore.enter_entries_length (st : NoticeStore) (n : Notice) (p : Nat) :
    (st.enter n p).entries.length = st.entries.length + 1 := by
  rcases st.enter_cases n p with ⟨_, _, h⟩ | ⟨_, h⟩ <;> rw [h] <;> simp

/-- A notice that a block queues enters a free place, or displaces the worst waiting one, or is dropped (R139, R141, R142). -/
theorem NoticeStore.take_cases (st : NoticeStore) (n : Notice) (p : Nat) :
    let es := st.entries.filter (fun e => !n.replaces e)
    (es.length < 8 ∧ st.take n p = ((st.withEntries es).enter n p, false)) ∨
    (8 ≤ es.length ∧ p < worstWaiting es ∧
      st.take n p = ((st.withEntries (removeYoungest (worstWaiting es) es)).enter n p, true)) ∨
    (8 ≤ es.length ∧ worstWaiting es ≤ p ∧ st.take n p = (st.withEntries es, true)) := by
  intro es
  unfold NoticeStore.take
  by_cases h : es.length < 8
  · exact .inl ⟨h, if_pos h⟩
  · by_cases h2 : p < worstWaiting es
    · exact .inr (.inl ⟨by omega, h2, by rw [if_neg (show ¬es.length < Config.notices from h), if_pos h2]⟩)
    · exact .inr (.inr ⟨by omega, by omega, by rw [if_neg (show ¬es.length < Config.notices from h), if_neg h2]⟩)

/-- The largest priority number of a waiting entry is one of theirs, or 0 (R142). -/
theorem worstWaiting_mem {es : List Entry} (h : 0 < worstWaiting es) :
    ∃ e ∈ es, e.waits = true ∧ e.priority = worstWaiting es := by
  have key : ∀ (l : List Entry) (m : Nat), l.foldl (fun m e => max m e.priority) m = m ∨
      ∃ e ∈ l, e.priority = l.foldl (fun m e => max m e.priority) m := by
    intro l
    induction l with
    | nil => intro m; exact .inl rfl
    | cons a l ih =>
      intro m
      rcases ih (max m a.priority) with h | ⟨e, he, h⟩
      · rw [List.foldl_cons, h]
        rcases Nat.le_total m a.priority with hm | hm
        · exact .inr ⟨a, List.mem_cons_self, by omega⟩
        · exact .inl (by omega)
      · exact .inr ⟨e, List.mem_cons_of_mem _ he, h⟩
  rcases key (es.filter Entry.waits) 0 with h0 | ⟨e, he, hp⟩
  · exact absurd h0 (by unfold worstWaiting at h; omega)
  · exact ⟨e, (List.mem_filter.mp he).1, (List.mem_filter.mp he).2, hp⟩

/-- Displacing takes one entry away (R142). -/
theorem removeYoungest_length {es : List Entry} {p : Nat} (h : ∃ e ∈ es, e.waits = true ∧ e.priority = p) :
    (removeYoungest p es).length = es.length - 1 := by
  obtain ⟨e, he, hw, hp⟩ := h
  unfold removeYoungest
  rw [List.length_reverse, List.length_eraseP_of_mem (a := e) (by simpa using he) (by simp [hw, hp]), List.length_reverse]

theorem removeYoungest_sublist (p : Nat) (es : List Entry) : (removeYoungest p es).Sublist es := by
  unfold removeYoungest
  simpa using (List.eraseP_sublist (p := fun e => e.waits && e.priority == p) (l := es.reverse)).reverse

@[simp] theorem NoticeStore.take_readings (st : NoticeStore) (n : Notice) (p : Nat) : (st.take n p).1.readings = st.readings := by
  rcases st.take_cases n p with ⟨_, h⟩ | ⟨_, _, h⟩ | ⟨_, _, h⟩ <;> rw [h] <;> simp
@[simp] theorem NoticeStore.take_reply (st : NoticeStore) (n : Notice) (p : Nat) : (st.take n p).1.reply = st.reply := by
  rcases st.take_cases n p with ⟨_, h⟩ | ⟨_, _, h⟩ | ⟨_, _, h⟩ <;> rw [h] <;> simp

/-- The store keeps its capacity when a notice is queued (R137, R142). -/
theorem NoticeStore.take_length {st : NoticeStore} (h : st.entries.length ≤ 8) (n : Notice) (p : Nat) :
    (st.take n p).1.entries.length ≤ 8 := by
  have hf : (st.entries.filter (fun e => !n.replaces e)).length ≤ st.entries.length := List.length_filter_le _ _
  rcases st.take_cases n p with ⟨_, h⟩ | ⟨_, hw, h⟩ | ⟨_, _, h⟩ <;> rw [h]
  · simp; omega
  · simp only [NoticeStore.enter_entries_length, NoticeStore.withEntries_entries]
    rw [removeYoungest_length (worstWaiting_mem (by omega))]
    omega
  · simp; omega

/-- A withdrawal takes away waiting entries only (R143). -/
theorem NoticeStore.withdraw_entries (st : NoticeStore) (f : Notice → Bool) :
    (st.withdraw f).1.entries = st.entries.filter (fun e => !(e.waits && f e.notice)) := rfl

/-! ## Queuing a notice and raising a condition -/

/-- Queuing a notice changes the notice store, and the condition set by NOTICE_LOST alone (R141, R142, R130). -/
theorem State.queueNotice_eq (s : State) (n : Notice) (p : Nat) :
    s.queueNotice n p = { s with store := (s.queueNotice n p).store, conds := (s.queueNotice n p).conds } := by
  unfold State.queueNotice State.raiseNoticeLost
  split
  · split <;> rfl
  · rfl

/-- Raising a condition changes the condition set and, through its notice, the notice store (R128). -/
theorem State.raise_eq (s : State) (c : Condition) :
    s.raise c = { s with store := (s.raise c).store, conds := (s.raise c).conds } := by
  unfold State.raise
  dsimp only
  split
  · rfl
  · split
    · rfl
    · rw [State.queueNotice_eq]

@[simp] theorem State.queueNotice_resetLow (s : State) (n : Notice) (p : Nat) : (s.queueNotice n p).resetLow = s.resetLow := by
  rw [State.queueNotice_eq]
@[simp] theorem State.queueNotice_seq (s : State) (n : Notice) (p : Nat) : (s.queueNotice n p).seq = s.seq := by
  rw [State.queueNotice_eq]
@[simp] theorem State.queueNotice_link (s : State) (n : Notice) (p : Nat) : (s.queueNotice n p).link = s.link := by
  rw [State.queueNotice_eq]
@[simp] theorem State.queueNotice_join (s : State) (n : Notice) (p : Nat) : (s.queueNotice n p).join = s.join := by
  rw [State.queueNotice_eq]
@[simp] theorem State.queueNotice_axles (s : State) (n : Notice) (p : Nat) : (s.queueNotice n p).axles = s.axles := by
  rw [State.queueNotice_eq]
@[simp] theorem State.queueNotice_positions (s : State) (n : Notice) (p : Nat) : (s.queueNotice n p).positions = s.positions := by
  rw [State.queueNotice_eq]
@[simp] theorem State.queueNotice_queue (s : State) (n : Notice) (p : Nat) : (s.queueNotice n p).queue = s.queue := by
  rw [State.queueNotice_eq]
@[simp] theorem State.queueNotice_engine (s : State) (n : Notice) (p : Nat) : (s.queueNotice n p).engine = s.engine := by
  rw [State.queueNotice_eq]
@[simp] theorem State.queueNotice_config (s : State) (n : Notice) (p : Nat) : (s.queueNotice n p).config = s.config := by
  rw [State.queueNotice_eq]
@[simp] theorem State.queueNotice_kinds (s : State) (n : Notice) (p : Nat) : (s.queueNotice n p).kinds = s.kinds := by
  rw [State.queueNotice_eq]
@[simp] theorem State.queueNotice_lamp (s : State) (n : Notice) (p : Nat) : (s.queueNotice n p).lamp = s.lamp := by
  rw [State.queueNotice_eq]
@[simp] theorem State.queueNotice_port (s : State) (n : Notice) (p : Nat) : (s.queueNotice n p).port = s.port := by
  rw [State.queueNotice_eq]
@[simp] theorem State.queueNotice_modes (s : State) (n : Notice) (p : Nat) : (s.queueNotice n p).modes = s.modes := by
  rw [State.queueNotice_eq]
@[simp] theorem State.queueNotice_joinWork (s : State) (n : Notice) (p : Nat) : (s.queueNotice n p).joinWork = s.joinWork := by
  rw [State.queueNotice_eq]
@[simp] theorem State.queueNotice_pending (s : State) (n : Notice) (p : Nat) : (s.queueNotice n p).pending = s.pending := by
  rw [State.queueNotice_eq]
@[simp] theorem State.raise_resetLow (s : State) (c : Condition) : (s.raise c).resetLow = s.resetLow := by rw [State.raise_eq]
@[simp] theorem State.raise_seq (s : State) (c : Condition) : (s.raise c).seq = s.seq := by rw [State.raise_eq]
@[simp] theorem State.raise_link (s : State) (c : Condition) : (s.raise c).link = s.link := by rw [State.raise_eq]
@[simp] theorem State.raise_join (s : State) (c : Condition) : (s.raise c).join = s.join := by rw [State.raise_eq]
@[simp] theorem State.raise_axles (s : State) (c : Condition) : (s.raise c).axles = s.axles := by rw [State.raise_eq]
@[simp] theorem State.raise_positions (s : State) (c : Condition) : (s.raise c).positions = s.positions := by rw [State.raise_eq]
@[simp] theorem State.raise_queue (s : State) (c : Condition) : (s.raise c).queue = s.queue := by rw [State.raise_eq]
@[simp] theorem State.raise_engine (s : State) (c : Condition) : (s.raise c).engine = s.engine := by rw [State.raise_eq]
@[simp] theorem State.raise_config (s : State) (c : Condition) : (s.raise c).config = s.config := by rw [State.raise_eq]
@[simp] theorem State.raise_kinds (s : State) (c : Condition) : (s.raise c).kinds = s.kinds := by rw [State.raise_eq]
@[simp] theorem State.raise_lamp (s : State) (c : Condition) : (s.raise c).lamp = s.lamp := by rw [State.raise_eq]
@[simp] theorem State.raise_port (s : State) (c : Condition) : (s.raise c).port = s.port := by rw [State.raise_eq]
@[simp] theorem State.raise_modes (s : State) (c : Condition) : (s.raise c).modes = s.modes := by rw [State.raise_eq]
@[simp] theorem State.raise_joinWork (s : State) (c : Condition) : (s.raise c).joinWork = s.joinWork := by rw [State.raise_eq]
@[simp] theorem State.raise_pending (s : State) (c : Condition) : (s.raise c).pending = s.pending := by rw [State.raise_eq]

/-! ## Entering VACANT or ABSENT -/

@[simp] theorem State.enterEmpty_resetLow (s : State) (p : Nat) (x : PosState) : (s.enterEmpty p x).resetLow = s.resetLow := rfl
@[simp] theorem State.enterEmpty_seq (s : State) (p : Nat) (x : PosState) : (s.enterEmpty p x).seq = s.seq := rfl
@[simp] theorem State.enterEmpty_link (s : State) (p : Nat) (x : PosState) : (s.enterEmpty p x).link = s.link := rfl
@[simp] theorem State.enterEmpty_join (s : State) (p : Nat) (x : PosState) : (s.enterEmpty p x).join = s.join := rfl
@[simp] theorem State.enterEmpty_axles (s : State) (p : Nat) (x : PosState) : (s.enterEmpty p x).axles = s.axles := rfl
@[simp] theorem State.enterEmpty_queue (s : State) (p : Nat) (x : PosState) : (s.enterEmpty p x).queue = s.queue := rfl
@[simp] theorem State.enterEmpty_config (s : State) (p : Nat) (x : PosState) : (s.enterEmpty p x).config = s.config := rfl
@[simp] theorem State.enterEmpty_kinds (s : State) (p : Nat) (x : PosState) : (s.enterEmpty p x).kinds = s.kinds := rfl
@[simp] theorem State.enterEmpty_conds (s : State) (p : Nat) (x : PosState) : (s.enterEmpty p x).conds = s.conds := rfl
@[simp] theorem State.enterEmpty_port (s : State) (p : Nat) (x : PosState) : (s.enterEmpty p x).port = s.port := rfl
@[simp] theorem State.enterEmpty_modes (s : State) (p : Nat) (x : PosState) : (s.enterEmpty p x).modes = s.modes := rfl
@[simp] theorem State.enterEmpty_joinWork (s : State) (p : Nat) (x : PosState) : (s.enterEmpty p x).joinWork = s.joinWork := rfl
@[simp] theorem State.enterEmpty_pending (s : State) (p : Nat) (x : PosState) : (s.enterEmpty p x).pending = s.pending := rfl
/-- The record of a position that enters VACANT or ABSENT is replaced whole, the others stand (R12). -/
@[simp] theorem State.enterEmpty_positions (s : State) (p : Nat) (x : PosState) :
    (s.enterEmpty p x).positions = s.positions.set p (Position.emptied x s.seq.frameNumber) := rfl
@[simp] theorem State.enterEmpty_engine (s : State) (p : Nat) (x : PosState) :
    (s.enterEmpty p x).engine = s.engine.voidFor p := rfl
/-- The waiting ALARM and READING notices of the position are withdrawn (R12). -/
@[simp] theorem State.enterEmpty_store (s : State) (p : Nat) (x : PosState) :
    (s.enterEmpty p x).store = (s.store.withdraw (Notice.alarmOrReadingFor p)).1 := rfl

/-! ## Records -/

/-- Reading back a record that was replaced. -/
theorem State.setPos_pos_self {s : State} {p : Nat} (h : p < s.positions.length) (r : Position) : (s.setPos p r).pos p = r := by
  simp [State.pos, List.getD_eq_getElem?_getD, h]

/-- A replaced record leaves the others. -/
theorem State.setPos_pos_of_ne {p q : Nat} (h : p ≠ q) (s : State) (r : Position) : (s.setPos p r).pos q = s.pos q := by
  simp [State.pos, List.getD_eq_getElem?_getD, List.getElem?_set_ne h]

/-- Two states with the same records read the same record. -/
theorem State.pos_congr {s t : State} (h : s.positions = t.positions) (p : Nat) : s.pos p = t.pos p := by
  unfold State.pos; rw [h]

/-- A record of the table is the one at its index. -/
theorem State.pos_mem {s : State} {p : Nat} (h : p < s.positions.length) : s.pos p ∈ s.positions := by
  simp [State.pos, List.getD_eq_getElem?_getD, h]

/-! ## The join controller's work at a frame end -/

/-- A step of R55 is made when the work stands at it, and otherwise nothing is done. -/
theorem State.joinStep_cases (s : State) (here next : JoinWork) (work : State → State) :
    (s.joinWork = here ∧ s.joinStep here next work = { work s with joinWork := next }) ∨
    (s.joinWork ≠ here ∧ s.joinStep here next work = s) := by
  unfold State.joinStep
  by_cases h : s.joinWork = here
  · exact .inl ⟨h, if_pos h⟩
  · exact .inr ⟨h, if_neg h⟩

/-- After the age-out step the work stands past it. -/
theorem State.joinToAgeOut_joinWork (s : State) : s.joinToAgeOut.joinWork ≠ .due := by
  rcases s.joinStep_cases .due .agedOut State.ageOut with ⟨_, h⟩ | ⟨h0, h⟩ <;> rw [State.joinToAgeOut, h]
  · exact fun he => JoinWork.noConfusion he
  · exact h0

/-- After the offer step the work stands past it. -/
theorem State.joinToOffers_joinWork (s : State) :
    s.joinToOffers.joinWork = .offersExpired ∨ s.joinToOffers.joinWork = .learnsCounted := by
  rcases s.joinToAgeOut.joinStep_cases .agedOut .offersExpired State.expireOffers with ⟨_, h⟩ | ⟨h0, h⟩ <;>
    rw [State.joinToOffers, h]
  · exact .inl rfl
  · have h1 := s.joinToAgeOut_joinWork
    revert h0 h1
    cases s.joinToAgeOut.joinWork <;> simp

/-- After the last step the work is made. -/
@[simp] theorem State.joinFrameEnd_joinWork (s : State) : s.joinFrameEnd.joinWork = .learnsCounted := by
  rcases s.joinToOffers.joinStep_cases .offersExpired .learnsCounted State.countLearns with ⟨_, h⟩ | ⟨h0, h⟩ <;>
    rw [State.joinFrameEnd, h]
  exact s.joinToOffers_joinWork.resolve_left h0

/-! ## Folds -/

/-- What every step of a fold keeps, the fold keeps. -/
theorem foldl_keeps {α β : Type} (Q : β → Prop) (f : β → α → β) (l : List α) (h : ∀ b, ∀ a ∈ l, Q b → Q (f b a)) :
    ∀ b, Q b → Q (l.foldl f b) := by
  induction l with
  | nil => exact fun b hb => hb
  | cons a l ih =>
    intro b hb
    exact ih (fun b x hx => h b x (List.mem_cons_of_mem _ hx)) _ (h b a List.mem_cons_self hb)

/-- A field that every step of a fold leaves, the fold leaves. -/
theorem foldl_field {α β γ : Type} (g : β → γ) (f : β → α → β) (h : ∀ b a, g (f b a) = g b) (l : List α) (b : β) :
    g (l.foldl f b) = g b := by
  induction l generalizing b with
  | nil => rfl
  | cons a l ih => rw [List.foldl_cons, ih, h]

/-- LAMP's rule as R123 words it. -/
theorem State.lampRule_eq_true_iff (s : State) :
    s.lampRule = true ↔ s.modes.mode = .config ∨ s.modes.mode = .test ∨ s.port.hostSilent = true ∨
      ∃ r ∈ s.positions, ∃ k ∈ Kind.all,
        (s.kinds.get k).cls = 2 ∧ ((r.alarms.get k).active = true ∨ (r.alarms.get k).pending = true) := by
  simp [State.lampRule, Position.lights, or_assoc]

end Sys2Proof.Machine
end

