-- ==== Sys2Proof/Laws/Port.lean ====
section
/-! SUPPORT. What a control frame can do: a good frame, a command taken, a frame discarded for overlap. -/

namespace Sys2Proof.Machine

/-- A good frame moves the port and LAMP alone (R155, R160). -/
theorem State.goodFrame_eq (s : State) : s.goodFrame = s.framed := by
  unfold State.goodFrame State.framed State.judgeLamp State.lampRule
  simp

/-- A reply enters the buffer and moves the transmitter only from idle (R144). -/
theorem State.reply_eq (s : State) (kind : Byte) (a : Answer) : s.reply kind a = { s with store := s.store.replied kind a } := by
  unfold State.reply NoticeStore.replied
  by_cases h : s.store.transmitter = .idle
  · simp [h, NoticeStore.choose]
  · simp [h]

/-- A command taken is carried out by its owner on the state that the good frame left, and answered (R155). -/
theorem State.takeFrame_ready {s : State} (h : s.store.reply = .empty) (kind : Byte) (work : State → State × Answer) :
    s.takeFrame kind work = (work s.taking).1.reply kind (work s.taking).2 := by
  unfold State.takeFrame
  simp only [State.goodFrame_eq]
  exact if_pos h

/-- A good frame that meets a reply in the buffer raises HOST_OVERRUN and does nothing else (R155). -/
theorem State.takeFrame_overlap {s : State} (h : s.store.reply ≠ .empty) (kind : Byte) (work : State → State × Answer) :
    s.takeFrame kind work = s.framed.raise .hostOverrun := by
  unfold State.takeFrame
  simp only [State.goodFrame_eq]
  exact if_neg h

/-- The bytes of a frame are lost while RESET is low (R171). -/
theorem State.commandFrame_low {s : State} (h : s.resetLow = true) (c : Command) (o : Owner) (p : List Byte) :
    s.commandFrame c o p = s := by simp [State.commandFrame, h]

/-- A command that passes the common checks is carried out by its owner and answered (R155, R156). -/
theorem State.commandFrame_ready {s : State} (h : s.Ready) {c : Command} {p : List Byte} (hl : p.length = c.payloadLength)
    (hm : c.acceptedIn s.modes.mode = true) (o : Owner) :
    s.commandFrame c o p = (o p s.taking).1.reply c.code (o p s.taking).2 := by
  have hm' : c.acceptedIn s.taking.modes.mode = true := hm
  simp [State.commandFrame, h.1, State.takeFrame_ready h.2, commonChecks, hl, hm']

/-- A command that fails the length check is refused BAD_LENGTH and changes nothing (R156). -/
theorem State.commandFrame_badLength {s : State} (h : s.Ready) {c : Command} {p : List Byte}
    (hl : p.length ≠ c.payloadLength) (o : Owner) :
    s.commandFrame c o p = s.replied c.code (Answer.refused .badLength) := by
  simp only [State.commandFrame, h.1, Bool.false_eq_true, if_false, State.takeFrame_ready h.2, commonChecks, hl, ne_eq,
    not_false_eq_true, if_true, State.reply_eq]
  rfl

/-- A command not accepted in the mode is refused WRONG_MODE and changes nothing (R156). -/
theorem State.commandFrame_wrongMode {s : State} (h : s.Ready) {c : Command} {p : List Byte}
    (hl : p.length = c.payloadLength) (hm : c.acceptedIn s.modes.mode = false) (o : Owner) :
    s.commandFrame c o p = s.replied c.code (Answer.refused .wrongMode) := by
  have hm' : c.acceptedIn s.taking.modes.mode = false := hm
  simp only [State.commandFrame, h.1, Bool.false_eq_true, if_false, State.takeFrame_ready h.2, commonChecks, hl, ne_eq,
    not_true_eq_false, hm', State.reply_eq]
  rfl

/-- A good frame of a catalogue command that meets a reply in the buffer is discarded (R155). -/
theorem State.commandFrame_overlap {s : State} (hr : s.resetLow = false) (h : s.store.reply ≠ .empty) (c : Command)
    (p : List Byte) (o : Owner) : s.commandFrame c o p = s.framed.raise .hostOverrun := by
  simp [State.commandFrame, hr, State.takeFrame_overlap h]

/-- The answer of an owner whose effect leaves the notice store as it met it. -/
theorem State.answered_eq {s t : State} {kind : Byte} {a : Answer} (h : t.store = s.taking.store) :
    t.reply kind a = { t with store := s.store.replied kind a } := by
  rw [State.reply_eq, h]
  rfl

end Sys2Proof.Machine
end

