-- ==== Sys2Proof/WellFormed.lean ====
section
/-! DEFINITION. The commands and events that can be put on the part's edges as their rows describe them. -/

namespace Sys2Proof

/-- A payload that a control frame can carry: 0 to 250 bytes (R151). -/
def payloadFits (payload : List Byte) : Bool := decide (payload.length ≤ Config.maxPayload)

/-- A kind byte that no command of the catalogue has (R156 check 1). -/
def kindUnknown (kind : Byte) : Bool := (Machine.Command.ofKind kind).isNone

/-- A check that does not match its frame (R154). -/
def checkDiffers (kind : Byte) (payload : List Byte) (check : BitVec 16) : Bool :=
  Machine.crc16 (Machine.u8 payload.length :: kind :: payload) != check

/-- Well-formedness of a command or event. -/
def WellFormed : Instr → Bool
  | .identify p | .getStatus p | .setMode p | .restart p | .setPort p | .setAxle p | .setLimits p | .setClass p
  | .setFilter p | .setLink p | .setMask p | .setReadings p | .ambient p | .load p | .sensorMode p | .learn p | .bind p
  | .unbind p | .cancel p | .getCandidates p | .getWheel p | .getSummary p | .ackAlarm p | .clearConditions p
  | .inject p => payloadFits p
  | .unknownCommand kind p => kindUnknown kind && payloadFits p
  | .hostOverrun _ p => payloadFits p
  | .badCheckFrame kind p check => checkDiffers kind p check && payloadFits p
  | .frameAbandoned length => decide (Config.maxPayload < length.toNat)
  | .radioArrival _ slot _ => decide (slot ≤ 36)
  | .byteGapExpiry | .hostSilenceExpiry | .frameEnd | .modeChange | .silenceCheck | .offerExpiry | .learnExpiry | .ageOut
  | .beaconSent | .assessmentStart | .reportCompletion | .joinCompletion | .messageBoundary | .warmRestart | .coldReset
  | .resetRelease | .controlByteReceived _ => true

end Sys2Proof
end

