-- ==== Sys2Proof/Tests/Slice0.lean ====
section
/-! SUPPORT. Small tests: what WellFormed refuses, the manual's worked cases, one event at a time, and for every statement
with hypotheses a state and operands that meet them. -/

namespace Sys2Proof.Tests

open Sys2Proof.Machine

set_option Elab.async false

/-! ## Helpers -/

/-- The state after an event. -/
def after (i : Instr) (s : State) : State :=
  match exec i s with
  | .next t => t
  | _ => s

/-- The state after events taken one after the other. -/
def afterAll (es : List Instr) (s : State) : State := es.foldl (fun t i => after i t) s

/-- The result, reason and data held in the reply buffer. -/
def answer (s : State) : Option Answer :=
  match s.store.reply with
  | .holding r => some r.answer
  | _ => none

/-- A record in a state, with a sensor ID. -/
def wheel (state : PosState) (id : SensorId) : Position := { Position.cold with state := state, sensorId := some id }

/-- A VACANT record. -/
def vacant : Position := Position.emptied .vacant 0#32

/-- A candidate heard in frame 1490. -/
def candidate (id : SensorId) : Candidate := ⟨id, .b, 1480#32, 1490#32, 700#12, 70#8, false⟩

/-- The beacon of frame 1500, with the join open flag set and an offer for slot 12. -/
def beacon : Beacon := ⟨0x2C41#16, 1500#16, .run, 0#32, 0#32, true, some .normal, [⟨12, 0x0C44F190#32, true⟩]⟩

/-- A truck in frame 1500 of a mode, with a twin axle 3 (600 kPa empty, 650 laden), loaded, and these four records at
positions 8 to 11. -/
def truck (mode : Mode) (rs : List Position) : State :=
  { State.reset with
    modes := ⟨mode, none, .laden⟩
    seq := { Sequencer.cold with frameNumber := 1500#32, timer := .running 4, beacon := some beacon }
    axles := (List.replicate 8 Axle.cold).set 2 ⟨true, true, 600, 650⟩
    positions := List.replicate 8 Position.cold ++ rs ++ List.replicate 20 Position.cold
    join := { State.reset.join with filters := ⟨0x0C440000#32, 0x0000FFFF#32, true⟩ :: List.replicate 3 AcceptFilter.cold }
    config := ⟨92, Limits.cold⟩
    lamp := mode == .test
    store := { State.reset.store with entries := [], transmitter := .idle, txd := [], attn := false } }

/-- Four VACANT records. -/
def bare : List Position := List.replicate 4 vacant

/-- Position 10 holds 0C44F301 in a state; its neighbours are VACANT. -/
def holding (state : PosState) : List Position := [vacant, vacant, wheel state 0x0C44F301#32, vacant]

/-- The telegram of the reference assessment (spec/11, one REPORT, from air to record). -/
def referenceTelegram : Telegram := ⟨.report, 0x0C44F301#32, 812#12, 118#8, 6#3, SensorFlags.none⟩

/-- Its ten bytes on the air, the reserved bits 0. -/
def referenceBurst : List Byte := referenceTelegram.burst 0#1 0#5

/-- A JOIN of a sensor, with TRIGGER or without. -/
def joinOf (id : SensorId) (trigger : Bool) : Telegram := ⟨.join, id, 700#12, 70#8, 5#3, ⟨trigger, false, false⟩⟩

/-- The engine at work on a JOIN that came in slot 34. -/
def joinInFlight (id : SensorId) (trigger : Bool) : InFlight := ⟨⟨joinOf id trigger, 34, .a, 1500#32⟩, none, false, false⟩

/-- The captured values of the reference assessment, with a window. -/
def capturedWith (w : List Sample) : Capture :=
  { load := .laden, ambient := 92, limits := Limits.cold, period := 4, silenceLimit := 10, axle := ⟨true, true, 600, 650⟩
    history := w, partner := none, startFrame := 1500#32 }

/-- The window of the slow loss (spec/05). -/
def slowLoss : List Sample := [⟨1200#32, 610⟩, ⟨1260#32, 607⟩, ⟨1320#32, 605⟩, ⟨1380#32, 603⟩]

/-- The reference REPORT in flight. -/
def reportInFlight : InFlight := ⟨⟨referenceTelegram, 11, .a, 1500#32⟩, some (capturedWith []), false, false⟩

/-- A state with the receiver in a framing state. -/
def withReceiver (r : Receiver) : State := { State.reset with port := { State.reset.port with receiver := r, gapTimer := true } }

/-- A state whose reply buffer holds a GET_STATUS reply that is leaving. -/
def replying : State :=
  { State.reset with store := { State.reset.store with
      entries := [], reply := .holding ⟨0x02#8, ⟨.done, none, []⟩⟩, transmitter := .sendingReply, attn := false } }

/-- READING notices for that many positions, WAITING. -/
def readings (n : Nat) : List Entry :=
  (List.range n).map (fun p => ⟨.reading p none none none 5#3 none 1500#32, 7, .waiting⟩)

/-- A MODE notice. -/
def modeNotice : Notice := .mode .run .command

theorem reset_ready : State.reset.Ready := ⟨rfl, rfl⟩

theorem truck_ready (m : Mode) (rs : List Position) : (truck m rs).Ready := ⟨rfl, rfl⟩

/-! ## WellFormed: an ill-formed term for each check -/

theorem test_wf_payload_too_long : WellFormed (.identify (List.replicate 251 0#8)) = false := by decide +kernel
theorem test_wf_payload_longest : WellFormed (.identify (List.replicate 250 0#8)) = true := by decide +kernel
theorem test_wf_known_kind : WellFormed (.unknownCommand 0x50#8 []) = false := by decide +kernel
theorem test_wf_unknown_kind : WellFormed (.unknownCommand 0x51#8 []) = true := by decide +kernel
theorem test_wf_matching_check : WellFormed (.badCheckFrame 0x01#8 [] (crc16 [0x00#8, 0x01#8])) = false := by decide +kernel
theorem test_wf_short_length : WellFormed (.frameAbandoned 250#8) = false := by decide +kernel
theorem test_wf_slot_past_the_frame : WellFormed (.radioArrival .a 37 []) = false := by decide +kernel

/-! ## The manual's worked cases -/

/-- spec/11: the bytes of 0C44F301's telegram that the text gives. -/
theorem test_reference_telegram_bytes :
    referenceBurst.take 9 = [0x3C#8, 0x0C#8, 0x44#8, 0xF3#8, 0x01#8, 0x32#8, 0xC6#8, 0x76#8, 0x00#8] := by decide +kernel

/-- spec/05, the reference assessment: Ph 720, Pca 698, Pg 606, T 68, nothing clamped. -/
theorem test_reference_assessment :
    coldAbsolute 812 20 68 = 698 ∧ hotGauge 812 92 = (720, false) ∧ coldGauge 812 92 20 68 = (606, false) ∧
      thresholds 650 Limits.cold = ⟨585, 520, 748⟩ := by decide +kernel

/-- spec/05, a slow loss: 35 kPa/h; a gain gives -35; a span of 181 frames gives -34. -/
theorem test_slow_loss :
    lossRate slowLoss 4 = (some 35, false) ∧
      lossRate [⟨1200#32, 603⟩, ⟨1260#32, 605⟩, ⟨1320#32, 607⟩, ⟨1380#32, 610⟩] 4 = (some (-35), false) ∧
      lossRate [⟨1200#32, 603⟩, ⟨1260#32, 605⟩, ⟨1320#32, 607⟩, ⟨1381#32, 610⟩] 4 = (some (-34), false) := by decide +kernel

/-- spec/05, the window after 30, 60 and more than 180 frames. -/
theorem test_window_rows :
    nextWindow .laden 60 1410#32 (some 602) slowLoss = slowLoss ∧
      nextWindow .laden 60 1440#32 (some 601) slowLoss = slowLoss ++ [⟨1440#32, 601⟩] ∧
      nextWindow .laden 60 1700#32 (some 596) slowLoss = [⟨1700#32, 596⟩] := by decide +kernel

/-- spec/05, worked cases at the limits. -/
theorem test_limit_cases :
    hotGauge 95 101 = (0, true) ∧ coldGauge 95 101 20 (-50) = (24, false) ∧ coldGauge 60 101 20 (-50) = (0, true) ∧
      hotGauge 4094 50 = (4044, false) ∧ coldAbsolute 4094 40 (-50) = 5746 ∧ coldGauge 4094 50 40 (-50) = (4000, true) := by
  decide +kernel

/-- spec/05, an invalid temperature: the rate stands, LEAK and SENSOR_FAULT are true, the pressure kinds are not evaluated. -/
theorem test_invalid_temperature :
    let e : QueueEntry := ⟨{ referenceTelegram with temperatureCode := 255#8 }, 11, .a, 1400#32⟩
    let r := assess e (capturedWith slowLoss)
    (r.hot = some 720 ∧ r.cold = none ∧ r.temperature = none ∧ r.rate = some 35 ∧ r.conditions = ⟨true, false⟩) ∧
      verdict e (capturedWith slowLoss) r .active .lowWarn = none ∧
      verdict e (capturedWith slowLoss) r .active .leak = some ⟨true, false⟩ ∧
      verdict e (capturedWith slowLoss) r .active .sensorFault = some ⟨true, false⟩ := by decide +kernel

/-- spec/06, a LEVEL alarm: two disagreeing verdicts turn the kind over, an acknowledged one is pending again. -/
theorem test_level_alarm :
    SubRecord.judged ⟨2, .level, some 2⟩ .lowAlarm ⟨false, false, 1⟩ (some ⟨true, false⟩) = ⟨true, true, 0⟩ ∧
      SubRecord.judged ⟨2, .level, some 2⟩ .lowAlarm ⟨true, false, 0⟩ (some ⟨true, false⟩) = ⟨true, true, 0⟩ ∧
      SubRecord.judged ⟨1, .edge, some 2⟩ .hotWarn ⟨true, false, 0⟩ (some ⟨true, false⟩) = ⟨true, false, 0⟩ := by decide

/-! ## Commands, on one state each -/

theorem test_identify : (answer (after (.identify []) State.reset)).map (fun a => a.data.take 8) =
    some [0x50#8, 0x41#8, 0x52#8, 0x4A#8, 0x55#8, 0x4E#8, 0x54#8, 0x56#8] := by decide +kernel
theorem test_getStatus_length : (answer (after (.getStatus []) State.reset)).map (fun a => a.data.length) = some 27 := by
  decide +kernel
/-- spec/01, laying out a three-axle tipper: laden 4200 is stored as 4000. -/
theorem test_setAxle_clamps :
    (after (.setAxle [3#8, 1#8, 1#8, 2#8, 88#8, 16#8, 104#8]) State.reset).axles.getD 2 Axle.cold = ⟨true, true, 600, 4000⟩ := by
  decide +kernel
theorem test_setAxle_fits :
    ((allPositions.filter (fun p => ((after (.setAxle [1#8, 1#8, 0#8, 2#8, 108#8, 2#8, 188#8]) State.reset).pos p).state
      == .vacant))) = [0, 2] := by decide +kernel
theorem test_setMode_without_axles : answer (after (.setMode [2#8]) State.reset) = some ⟨.refused, some .notConfigured, []⟩ := by
  decide +kernel
theorem test_setMode_to_config_pends : (after (.setMode [1#8]) (truck .run bare)).modes.pending = some .config := by
  decide +kernel
theorem test_setPort_clamps : (after (.setPort [61#8]) (truck .run bare)).port.silenceLimit = 60 := by decide +kernel
theorem test_setLimits_refused_as_a_set :
    (after (.setLimits [20#8, 20#8, 20#8, 15#8, 10#8, 85#8, 100#8, 25#8, 0#8, 70#8, 60#8]) State.reset).config.limits
      = Limits.cold := by decide +kernel
theorem test_setClass_clamps_confirm :
    (after (.setClass [8#8, 0#8, 1#8, 9#8]) State.reset).kinds.highWarn = ⟨0, .level, some 4⟩ := by decide +kernel
theorem test_setFilter_replaces :
    ((after (.setFilter [3#8, 0x51#8, 0xD0#8, 0xE8#8, 0x22#8, 0#8, 0#8, 0#8, 0#8, 1#8]) State.reset).join.filters.getD 3
      AcceptFilter.cold) = ⟨0x51D0E822#32, 0#32, true⟩ := by decide +kernel
theorem test_setLink_clamps :
    let q := (after (.setLink [17#8, 2#8, 0x2C#8, 0x41#8]) State.reset).seq
    q.period = 16 ∧ q.silenceLimit = 3 ∧ q.vehicleCode = 0x2C41#16 := by decide +kernel
theorem test_setMask : (after (.setMask [0x7F#8]) State.reset).conds.mask = 0x7F#7 := by decide +kernel
theorem test_setReadings : (after (.setReadings [1#8]) State.reset).store.readings = true := by decide +kernel
theorem test_ambient_clamps : (after (.ambient [111#8]) State.reset).config.ambient = 110 := by decide +kernel
theorem test_load_refused : (after (.load [4#8]) State.reset).modes.load = .empty := by decide +kernel
theorem test_sensorMode_park_refused :
    answer (after (.sensorMode [4#8]) State.reset) = some ⟨.refused, some .badArgument, []⟩ := by decide +kernel
theorem test_learn : ((after (.learn [11#8]) (truck .run bare)).pos 11).learn = some 150 := by decide +kernel
theorem test_bind :
    let s := { truck .run bare with join := { (truck .run bare).join with candidates := [candidate 0x0C44B210#32] } }
    let t := after (.bind [9#8, 0x0C#8, 0x44#8, 0xB2#8, 0x10#8]) s
    (t.pos 9).state = .offered ∧ (t.pos 9).sensorId = some 0x0C44B210#32 ∧ t.join.candidates = [] := by decide +kernel
theorem test_unbind :
    answer (after (.unbind [10#8]) (truck .run (holding .active))) =
      some ⟨.done, none, [10#8, 6#8, 1#8, 0x0C#8, 0x44#8, 0xF3#8, 0x01#8]⟩ := by decide +kernel
theorem test_cancel_not_pending :
    answer (after (.cancel [10#8]) (truck .run (holding .active))) = some ⟨.refused, some .notPending, []⟩ := by decide +kernel
theorem test_getCandidates_empty : answer (after (.getCandidates []) State.reset) = some ⟨.done, none, [0#8]⟩ := by
  decide +kernel
theorem test_getWheel_length : (answer (after (.getWheel [31#8]) State.reset)).map (fun a => a.data.length) = some 62 := by
  decide +kernel
theorem test_getSummary_empty : answer (after (.getSummary []) State.reset) = some ⟨.done, none, [0#8, 0#8, 0#8]⟩ := by
  decide +kernel
theorem test_ackAlarm_unbound :
    answer (after (.ackAlarm [11#8, 0#8, 1#8]) (truck .run bare)) = some ⟨.refused, some .notBound, []⟩ := by decide +kernel
theorem test_clearConditions :
    (after (.clearConditions [0x40#8]) { State.reset with conds := ⟨0x41#7, 0#7⟩ }).conds.set = 0x01#7 := by decide +kernel

/-- spec/02, INJECT in TEST: the first copy is accepted, the second is a duplicate. -/
theorem test_inject_duplicate :
    let c : Instr := .inject [1#8, 11#8, 0x3C#8, 0x0C#8, 0x44#8, 0xF3#8, 0x01#8, 0x03#8, 0x2C#8, 118#8, 6#8, 0#8]
    answer (afterAll [c, .messageBoundary, c] (truck .test (holding .assigned))) =
      some ⟨.refused, some .duplicate, [0#8, 0#8, 5#8, 0xDC#8, 11#8]⟩ := by decide +kernel

/-! ## Events -/

/-- spec/05 and spec/11: from the burst to the record. -/
theorem test_report_to_record :
    let t := afterAll [.radioArrival .a 11 referenceBurst, .reportCompletion] (truck .run (holding .active))
    let w := (t.pos 10).wheel
    w.hotGauge = some 720 ∧ w.coldGauge = some 606 ∧ w.temperature = some 68 ∧ w.battery = some 6#3 ∧
      w.lastHeard = some 1500#32 ∧ w.lossRate = none ∧ w.history = [⟨1500#32, 606⟩] := by decide +kernel
/-- spec/01, silence at an age of 10 frames, not of 9. -/
theorem test_silence_at_ten :
    let r : Position := { wheel .active 7#32 with wheel := { WheelData.cleared with lastHeard := some 1490#32 } }
    ((after .silenceCheck (truck .run [r, r, r, r])).pos 8).state = .missing ∧
      ((after .silenceCheck { truck .run [r, r, r, r] with seq := { (truck .run []).seq with frameNumber := 1499#32 } }).pos 8).state
        = .active := by decide +kernel
theorem test_frameEnd_counts_and_sends :
    let t := after .frameEnd (truck .run bare)
    t.seq.frameNumber = 1501#32 ∧ t.seq.txKey = true ∧ t.seq.txData.length = 16 := by
  delta after exec execFrameEnd execModeChange State.frameEnd State.frameEndWork
  generalize Config.joinWorkFirst = joinFirst
  cases joinFirst <;> decide +kernel
theorem test_beaconSent_releases :
    (afterAll [.frameEnd, .beaconSent] (truck .run bare)).seq.txKey = false := by
  delta afterAll after exec execFrameEnd execModeChange State.frameEnd State.frameEndWork
  generalize Config.joinWorkFirst = joinFirst
  cases joinFirst <;> decide +kernel
/-- R52: an offer cancelled and made again for the same sensor while the beacon is on the air is not counted. -/
theorem test_beaconSent_passes_over_a_new_offer :
    let id : SensorId := 0x0C44F190#32
    let o : Position := { wheel .offered id with offer := some ⟨6, candidate id⟩ }
    let s : State := { truck .run [vacant, vacant, vacant, o] with seq := { (truck .run bare).seq with txKey := true } }
    ((afterAll [.cancel [11#8], .messageBoundary, .bind ([11#8] ++ bytes32 id), .beaconSent] s).pos 11).offer =
      some ⟨6, candidate id⟩ := by decide +kernel
/-- spec/03, an offer that runs out: the candidate returns. -/
theorem test_offer_runs_out :
    let o : Position := { wheel .offered 0x0C44B210#32 with offer := some ⟨0, candidate 0x0C44B210#32⟩ }
    let t := after .offerExpiry (truck .run [vacant, o, vacant, vacant])
    (t.pos 9).state = .vacant ∧ t.join.candidates = [candidate 0x0C44B210#32] := by decide +kernel
/-- R55 and R49: the age-out frees a place before the offer expiry, and the returned candidate, 30 frames old, is judged for
age at the next frame end only. -/
theorem test_offer_returns_after_the_age_out :
    let id : SensorId := 0x0C44B210#32
    let stale : Candidate := { candidate id with lastHeard := 1470#32 }
    let o : Position := { wheel .offered id with offer := some ⟨0, stale⟩ }
    let seven := (List.range 7).map (fun n => candidate (BitVec.ofNat 32 n))
    let s : State := { truck .run [vacant, o, vacant, vacant] with
      join := { State.reset.join with candidates := { candidate 9#32 with lastHeard := 1470#32 } :: seven } }
    (after .offerExpiry s).join.candidates = seven ++ [stale] ∧ (after .offerExpiry s).conds.set = 0#7 ∧
      (afterAll [.offerExpiry, .frameEnd] s).join.candidates = seven ++ [stale] ∧
      (afterAll [.offerExpiry, .frameEnd, .frameEnd] s).join.candidates = seven := by
  delta afterAll after exec execFrameEnd execModeChange State.frameEnd State.frameEndWork
  generalize Config.joinWorkFirst = joinFirst
  cases joinFirst <;> decide +kernel
theorem test_learn_runs_out :
    ((after .learnExpiry (truck .run [vacant, vacant, vacant, { vacant with state := .learning, learn := some 1 }])).pos 11).state
      = .vacant := by decide +kernel
theorem test_modeChange_to_park :
    let s := { truck .run bare with modes := ⟨.run, some .park, .laden⟩ }
    (after .modeChange s).modes.mode = .park ∧ (after .modeChange s).seq.timer = .running 32 := by
  delta after exec execFrameEnd execModeChange State.frameEnd State.frameEndWork
  generalize Config.joinWorkFirst = joinFirst
  cases joinFirst <;> decide +kernel
theorem test_ageOut_at_thirty :
    let s := fun (n : FrameNo) => { truck .run bare with
      seq := { (truck .run bare).seq with frameNumber := n }, join := { State.reset.join with candidates := [candidate 5#32] } }
    (after .ageOut (s 1519#32)).join.candidates.length = 1 ∧ (after .ageOut (s 1520#32)).join.candidates.length = 0 := by
  decide +kernel
theorem test_hostSilence :
    (after .hostSilenceExpiry { truck .run bare with port := ⟨.hunt, false, 5, true, false⟩ }).lamp = true := by decide +kernel
theorem test_hostOverrun_notice :
    ((after (.hostOverrun 0x42#8 []) replying).store.entries.map Entry.notice) = [.condition .hostOverrun 0#32] := by
  decide +kernel
theorem test_unknownCommand :
    answer (after (.unknownCommand 0x80#8 []) State.reset) = some ⟨.refused, some .unknownCommand, []⟩ := by decide +kernel
theorem test_restart_then_boundary :
    let s := { truck .run (holding .active) with store := replying.store }
    (afterAll [.messageBoundary, .restart [], .messageBoundary] s).modes.mode = .config := by decide +kernel
theorem test_bytes_of_a_frame :
    answer (afterAll ([0xA5#8, 0x00#8, 0x34#8].map .controlByteReceived ++
      (bytes16 (crc16 [0x00#8, 0x34#8])).map .controlByteReceived) State.reset) = some ⟨.done, none, [0#8]⟩ := by decide +kernel

/-! ## Witnesses: states and operands that meet the hypotheses of the statements -/

theorem witness_StepRunsFrontEvent : State.reset.pending = [] := rfl

theorem witness_ColdResetHoldsUntilRelease : Instr.coldReset ≠ .resetRelease ∧ State.reset.resetLow = false := by decide

theorem witness_FrameBytesTakeTheCommand :
    State.reset.resetLow = false ∧ State.reset.port.receiver = .hunt ∧ (List.replicate 250 0#8).length ≤ 250 ∧
      ([] : List Byte).length ≤ 250 ∧ Command.ofKind 0x51#8 = none ∧ crc16 [u8 0, 0x01#8] ≠ 0#16 := by decide +kernel

theorem witness_PortBytesAndTimers :
    State.reset.resetLow = false ∧ State.reset.port.receiver = .hunt ∧ (0xA4#8 : Byte) ≠ 0xA5#8 ∧
      (withReceiver .length).resetLow = false ∧ (withReceiver .length).port.receiver = .length ∧
      (250#8 : Byte).toNat ≤ 250 ∧ 251 ≤ (251#8 : Byte).toNat ∧
      (withReceiver (.kind 0#8)).port.receiver = .kind 0#8 ∧ (withReceiver (.kind 1#8)).port.receiver = .kind 1#8 ∧
      (withReceiver (.payload 1#8 1#8 [])).port.receiver = .payload 1#8 1#8 [] ∧
      (withReceiver (.checkHigh 0#8 1#8 [])).port.receiver = .checkHigh 0#8 1#8 [] ∧
      (withReceiver (.checkLow 0#8 1#8 [] 0#8)).port.receiver = .checkLow 0#8 1#8 [] 0#8 ∧
      crc16 [0#8, 1#8] ≠ read16 0#8 0#8 ∧ crc16 [u8 0, 1#8] ≠ 0#16 := by decide +kernel

theorem witness_CommonChecksInOrder :
    State.reset.Ready ∧ Command.ofKind 0x95#8 = none ∧ ([] : List Byte).length ≠ Command.ambient.payloadLength ∧
      ([11#8] : List Byte).length = Command.learn.payloadLength ∧ Command.learn.acceptedIn State.reset.modes.mode = false ∧
      ([92#8] : List Byte).length = Command.ambient.payloadLength ∧ Command.ambient.acceptedIn State.reset.modes.mode = true :=
  ⟨reset_ready, by decide +kernel⟩

theorem witness_OverlapRaisesHostOverrun :
    replying.resetLow = false ∧ replying.store.reply ≠ .empty ∧ crc16 [u8 0, 0x01#8] = 0x0D2E#16 := by decide +kernel

theorem witness_RaiseFollowsStateAndMask :
    condIn .rxOverrun ({ State.reset with conds := ⟨0x04#7, 0#7⟩ } : State).conds.set = true ∧
      (condIn .clamped State.reset.conds.set = false ∧ condIn .clamped State.reset.conds.mask = true) ∧
      (condIn .rxOverrun State.reset.conds.set = false ∧ condIn .rxOverrun State.reset.conds.mask = false ∧
        ({ State.reset with store := State.reset.store.withEntries (readings 7) } : State).store.entries.length < 8) ∧
      (condIn .noticeLost State.reset.conds.set = false ∧ condIn .noticeLost State.reset.conds.mask = false ∧
        8 ≤ ({ State.reset with store := State.reset.store.withEntries (readings 8) } : State).store.entries.length ∧
        Condition.rxOverrun ≠ .noticeLost) := by
  decide +kernel

/-- Each case of the entry, the last notice lost to a full store, and an idle transmitter with nothing to send. -/
theorem witness_NoticeEntersDisplacesOrDrops :
    let kept := fun (n : Nat) => (readings n).filter (fun e => !modeNotice.replaces e)
    (kept 7).length < 8 ∧ (8 ≤ (kept 8).length ∧ ∀ e ∈ kept 8, e.waits = true → e.priority ≤ 7) ∧
      (8 ≤ (kept 8).length ∧ ∃ e ∈ kept 8, e.waits = true ∧ 1 < e.priority) ∧
      (∃ e ∈ State.reset.store.entries, e.waits = false) ∧
      (let s : State := { State.reset with store := State.reset.store.withEntries (readings 8) }
       condIn .noticeLost s.conds.set = false ∧ condIn .noticeLost (s.queueNotice modeNotice 1).conds.set = true ∧
         condIn .noticeLost (s.queueNotice modeNotice 7).conds.set = true) ∧
      ((truck .run bare).store.transmitter = .idle ∧ (truck .run bare).store.reply = .empty ∧
        (truck .run bare).store.entries = [] ∧ State.reset.store.transmitter ≠ .idle) := by decide +kernel

/-- Each case of the boundary, with the two MODE-priority notices in age order. -/
theorem witness_BoundarySendsMostUrgent :
    ((truck .run bare).sendsRestart = false ∧ (truck .run bare).store.transmitter = .idle) ∧
      (replying.sendsRestart = false ∧ replying.store.transmitter ≠ .idle ∧
        (after .messageBoundary replying).store.transmitter = .idle) ∧
      (let s := { replying with store := replying.store.withEntries (readings 2 ++ [⟨modeNotice, 1, .waiting⟩]) }
       s.sendsRestart = false ∧ (after .messageBoundary s).store.transmitter = .sendingNotice ∧
         (after .messageBoundary s).store.txd = modeNotice.frame) ∧
      (let s := after (.getStatus []) State.reset
       s.sendsRestart = false ∧ s.store.transmitter = .sendingNotice ∧
         (after .messageBoundary s).store.transmitter = .sendingReply) := by decide +kernel

theorem witness_RestartTakesEffectAfterItsReply :
    State.reset.Ready ∧ (after (.restart []) (truck .run bare)).sendsRestart = true ∧ State.reset.sendsRestart = false :=
  ⟨reset_ready, by decide +kernel⟩

/-- The reading commands, AMBIENT, the one-value commands, SET_MASK and CLEAR_CONDITIONS ask for a ready part only. -/
theorem witness_ReadingCommandsAnswer : State.reset.Ready ∧ (31#8 : Byte).toNat < 32 ∧ ¬(32#8 : Byte).toNat < 32 :=
  ⟨reset_ready, by decide⟩

theorem witness_SummaryListsPendingAlarms :
    (truck .run bare).Ready ∧ ((truck .run (holding .active)).setAlarm 10 .leak ⟨true, true, 0⟩).pendingAlarms = [(10, .leak)] :=
  ⟨truck_ready _ _, by decide +kernel⟩

/-- Empty data and the longest; and the reply to an accepted RESTART, its check worked out by R154's steps. -/
theorem witness_RepliesAndNoticesHaveTheirLayout :
    ([] : List Byte).length ≤ 247 ∧ (List.replicate 247 0#8).length ≤ 247 ∧
      Reply.frame ⟨0x04#8, ⟨.done, none, []⟩⟩ =
        [0xA5#8, 0x03#8, 0x80#8, 0x04#8, 0x01#8, 0x00#8, 0xCD#8, 0x17#8] := by decide +kernel

theorem witness_AmbientClampsAndStores :
    State.reset.Ready ∧ max 50 (min 110 (49#8 : Byte).toNat) = 50 ∧ max 50 (min 110 (111#8 : Byte).toNat) = 110 :=
  ⟨reset_ready, by decide⟩

theorem witness_OneValueCommandsStore :
    State.reset.Ready ∧ (0#8 : Byte) ∉ [1#8, 2#8, 3#8] ∧ (4#8 : Byte) ∉ [1#8, 2#8, 3#8] ∧ DownlinkValue.slow ≠ .park ∧
      (2#8 : Byte) ∉ [0#8, 1#8] :=
  ⟨reset_ready, by decide⟩

theorem witness_MaskAndClearConditions :
    State.reset.Ready ∧ (0x80#8 : Byte).getLsbD 7 = true ∧ (0x7F#8 : Byte).getLsbD 7 = false :=
  ⟨reset_ready, by decide⟩

theorem witness_SetLinkStores : State.reset.Ready ∧ State.reset.modes.mode = .config := ⟨reset_ready, rfl⟩

/-- Percentages 20 and 20 are refused as a set, 20 and 21 are stored; the same for the temperatures. -/
theorem witness_SetLimitsClampsChecksStores :
    State.reset.Ready ∧ State.reset.modes.mode = .config ∧ (truck .run bare).Ready ∧ (truck .run bare).modes.mode ≠ .config ∧
      max 2 (min 80 (20#8 : Byte).toNat) ≤ max 1 (min 50 (20#8 : Byte).toNat) ∧
      max 1 (min 50 (20#8 : Byte).toNat) < max 2 (min 80 (21#8 : Byte).toNat) ∧
      max 41 (min 180 (85#8 : Byte).toNat) ≤ max 40 (min 150 (85#8 : Byte).toNat) ∧
      max 40 (min 150 (85#8 : Byte).toNat) < max 41 (min 180 (86#8 : Byte).toNat) :=
  ⟨reset_ready, rfl, truck_ready _ _, by decide +kernel⟩

theorem witness_SetClassReplacesEntry :
    State.reset.Ready ∧ State.reset.modes.mode = .config ∧ (truck .park bare).Ready ∧ (truck .park bare).modes.mode ≠ .config ∧
      10 < (11#8 : Byte).toNat ∧ (10#8 : Byte) = Kind.batteryLow.code ∧ 2 < (3#8 : Byte).toNat ∧
      (2#8 : Byte).toNat = (2 : Fin 3).val ∧ (3#8 : Byte) ∉ [1#8, 2#8] ∧ (2#8 : Byte) = ReportType.edge.code :=
  ⟨reset_ready, rfl, truck_ready _ _, by decide +kernel⟩

theorem witness_SetFilterAndAdmission :
    State.reset.Ready ∧ State.reset.modes.mode = .config ∧ 4 ≤ (4#8 : Byte).toNat ∧ (3#8 : Byte).toNat < 4 ∧
      (2#8 : Byte) ∉ [0#8, 1#8] ∧ (1#8 : Byte) = yesNo true :=
  ⟨reset_ready, rfl, by decide⟩

theorem witness_SetAxleFitsPositions :
    State.reset.Ready ∧ State.reset.modes.mode = .config ∧ 8 < (9#8 : Byte).toNat ∧ (2#8 : Byte) ∉ [0#8, 1#8] ∧ 1 ≤ (1#8 : Byte).toNat ∧ (8#8 : Byte).toNat ≤ 8 ∧
      State.reset.positions.length = 32 ∧ State.reset.axles.length = 8 :=
  ⟨reset_ready, rfl, by decide +kernel⟩

/-- LEARN's cases: position 32, an ABSENT one, one beside a LEARNING one, one when four are pending, one that is taken. -/
theorem witness_LearnWaitsAtAVacantPosition :
    let learner : Position := { vacant with state := .learning, learn := some 150 }
    let offered := wheel .offered 1#32
    (truck .run bare).Ready ∧ (truck .run bare).modes.mode = .run ∧ (truck .run bare).positions.length = 32 ∧
      32 ≤ (32#8 : Byte).toNat ∧ ((truck .run bare).pos 31).state ≠ .vacant ∧
      ((truck .run [vacant, learner, vacant, vacant]).pos 8).state = .vacant ∧
      (∃ r ∈ (truck .run [vacant, learner, vacant, vacant]).positions, r.state = .learning) ∧
      4 ≤ ({ truck .run bare with positions := vacant :: List.replicate 4 offered ++ List.replicate 27 vacant } : State).countPositions
        PosState.pendingBind ∧
      ((truck .test bare).pos 11).state = .vacant ∧ (∀ r ∈ (truck .test bare).positions, r.state ≠ .learning) ∧
      (truck .test bare).countPositions PosState.pendingBind < 4 := by
  refine ⟨truck_ready _ _, rfl, ?_⟩
  decide +kernel

theorem witness_BindOffersACandidate :
    let s : State := { truck .run bare with join := { State.reset.join with candidates := [candidate 1#32, candidate 2#32] } }
    s.Ready ∧ s.modes.mode = .run ∧ s.positions.length = 32 ∧ 32 ≤ (32#8 : Byte).toNat ∧ (s.pos 31).state ≠ .vacant ∧
      (s.pos 8).state = .vacant ∧ (∀ c ∈ s.join.candidates, c.id ≠ 3#32) ∧
      4 ≤ ({ s with positions := vacant :: List.replicate 4 (wheel .offered 1#32) ++ List.replicate 27 vacant } : State).countPositions
        PosState.pendingBind ∧
      s.countPositions PosState.pendingBind < 4 ∧ s.join.candidates = [candidate 1#32] ++ candidate 2#32 :: [] ∧
      (∀ x ∈ [candidate 1#32] ++ [], x.id ≠ 2#32) := by
  refine ⟨⟨rfl, rfl⟩, rfl, ?_⟩
  decide +kernel

theorem witness_CancelAndUnbindVacate :
    let o : Position := { wheel .offered 5#32 with offer := some ⟨6, candidate 5#32⟩ }
    let s := truck .run [o, { vacant with state := .learning, learn := some 1 }, wheel .missing 6#32, vacant]
    s.Ready ∧ 32 ≤ (32#8 : Byte).toNat ∧ (31#8 : Byte).toNat < 32 ∧ s.positions.length = 32 ∧ s.modes.mode = .run ∧
      (s.pos 10).state ∉ [.learning, .offered] ∧
      (s.pos 31).state ∈ [.absent, .vacant] ∧ (s.pos 8).state ∈ [.learning, .offered] ∧ (s.pos 9).state ∈ [.learning, .offered] ∧
      (s.pos 10).state ∉ [.absent, .vacant] ∧ (s.pos 10).offer = none ∧ (s.pos 8).offer = some ⟨6, candidate 5#32⟩ ∧
      s.join.candidates.length < 8 ∧ 8 ≤ (List.replicate 8 (candidate 1#32)).length := by
  refine ⟨truck_ready _ _, ?_⟩
  decide +kernel

theorem witness_AckAlarmClearsPending :
    let s := truck .run (holding .active)
    s.Ready ∧ s.positions.length = 32 ∧ (32 ≤ (0xFE#8 : Byte).toNat ∧ (0xFE#8 : Byte) ≠ 0xFF#8) ∧
      1024 ≤ (0x04#8 ++ 0x00#8 : BitVec 16).toNat ∧ (0x03#8 ++ 0xFF#8 : BitVec 16).toNat < 1024 ∧
      (0x03#8 ++ 0xFF#8 : BitVec 16) ≠ 0#16 ∧ (31#8 : Byte).toNat < 32 ∧ (s.pos 31).state.bound = false ∧
      (s.pos 10).state.bound = true := by
  refine ⟨truck_ready _ _, ?_⟩
  decide +kernel

/-- Each check of SET_MODE, and the reply that shows the pending PARK (R181). -/
theorem witness_SetModeChecksInOrder :
    State.reset.Ready ∧ (5#8 : Byte) ∉ [1#8, 2#8, 3#8, 4#8] ∧ (4#8 : Byte) = Mode.test.code ∧
      ({ truck .run bare with modes := ⟨.run, some .park, .laden⟩ } : State).modes.pending = some .park ∧
      State.reset.modes.pending = none ∧ Mode.config = State.reset.modes.mode ∧ Mode.run ≠ .config ∧
      (∀ a ∈ State.reset.axles, a.present = false) ∧ (truck .run bare).modes.mode ≠ .config ∧
      (truck .run bare).modes.pending = none ∧ Mode.config ≠ (truck .run bare).modes.mode ∧
      answer (after (.setMode [4#8]) { truck .run bare with modes := ⟨.run, some .park, .laden⟩ }) =
        some ⟨.refused, some .busy, [2#8, 3#8]⟩ :=
  ⟨reset_ready, by decide +kernel⟩

theorem witness_LeavingConfigStartsAFrame :
    let s := truck .config (holding .assigned)
    s.Ready ∧ s.modes.mode = .config ∧ s.modes.pending = none ∧ Mode.park ≠ .config ∧ (∃ a ∈ s.axles, a.present = true) ∧
      (∀ r ∈ s.positions, r.state ≠ .offered) ∧ s.store.entries.length < 8 ∧ s.join.reoffers = [] ∧
      (let full := s.store.withEntries (readings 8)
       full.reply = .empty ∧ 8 ≤ full.entries.length) := by
  refine ⟨truck_ready _ _, ?_⟩
  decide +kernel

theorem witness_TelegramsAndBeaconsReadBack :
    ({ beacon with offers := List.replicate 4 ⟨12, 1#32, true⟩ } : Beacon).offers.length ≤ 4 ∧ beacon.linkMode ≠ .config := by
  decide

theorem witness_OneByteErrorsAreDiscarded :
    (integrity referenceBurst).isSome = true ∧ 9 < referenceBurst.length ∧ (0#8 : Byte) ≠ referenceBurst.getD 9 0#8 := by
  decide +kernel

/-- The cases of the checks: slots 0, 1, 32, 33 and 36, 37; a VACANT position; another ID; a mark; a full queue. -/
theorem witness_ArrivalsDiscardedByCheck :
    let s := truck .run (holding .active)
    let marked : State := { s with link := { s.link with wheelMarks := 1#32 <<< 10 } }
    let q : List QueueEntry := List.replicate 6 ⟨referenceTelegram, 11, .a, 1500#32⟩
    let join := joinOf 9#32 true
    (State.reset.seq.timer = .stopped ∧ s.seq.timer ≠ .stopped ∧ s.modes.mode = .run) ∧
      (integrity [] = none ∧ integrity beacon.bytes = some (.beacon 0x2C41#16)) ∧
      (integrity referenceBurst = some (.telegram referenceTelegram) ∧ referenceTelegram.kind = .report) ∧
      ((s.pos (32 - 1)).state ∈ [.absent, .vacant, .learning] ∧ (s.pos (1 - 1)).state ∈ [.absent, .vacant, .learning]) ∧
      ((s.pos (11 - 1)).state ∉ [.absent, .vacant, .learning] ∧ (s.pos (11 - 1)).sensorId = some referenceTelegram.id ∧
        (truck .run [vacant, vacant, wheel .active 1#32, vacant]).pos 10 = wheel .active 1#32) ∧
      (marked.link.wheelMarks.getLsbD (11 - 1) = true ∧ s.link.wheelMarks.getLsbD (11 - 1) = false ∧ 6 ≤ q.length) ∧
      (integrity (join.burst 1#1 31#5) = some (.telegram join) ∧ join.kind = .join) ∧
      (s.seq.beacon = some beacon ∧ beacon.joinOpen = true ∧ join.id ∉ s.link.joinMarks.get 33 ∧
        (s.link.joinMarks.get 36).length < 4 ∧
        4 ≤ ((⟨[], [], [], [1#32, 2#32, 3#32, 4#32]⟩ : JoinMarks).get 36).length) := by decide +kernel

theorem witness_ArrivalsAcceptedIntoTheQueue :
    let s := truck .run (holding .offered)
    let join := joinOf 9#32 true
    (integrity referenceBurst = some (.telegram referenceTelegram) ∧ s.seq.timer ≠ .stopped ∧ s.modes.mode = .run ∧
      (List.replicate 5 (⟨referenceTelegram, 11, .a, 1500#32⟩ : QueueEntry)).length < 6 ∧ s.queue.length < 6) ∧
      (referenceTelegram.kind = .report ∧ (s.pos (11 - 1)).state ∉ [.absent, .vacant, .learning] ∧
        (s.pos (11 - 1)).sensorId = some referenceTelegram.id ∧ s.link.wheelMarks.getLsbD (11 - 1) = false) ∧
      ((s.pos (11 - 1)).state = .offered ∧ s.store.entries.length < 8 ∧ s.engine = .idle ∧ s.queue = []) ∧
      (integrity (join.burst 0#1 0#5) = some (.telegram join) ∧ join.kind = .join ∧
        s.seq.beacon = some beacon ∧ beacon.joinOpen = true ∧ join.id ∉ s.link.joinMarks.get 36 ∧
        (s.link.joinMarks.get 33).length < 4) := by decide +kernel

theorem witness_InjectActsAsAnArrival :
    (truck .test bare).Ready ∧ (truck .test bare).modes.mode = .test ∧ (3#8 : Byte) ∉ [1#8, 2#8] ∧ 36 < (37#8 : Byte).toNat ∧
      (0x3E#8 : Byte) ∉ [0x3C#8, 0x3D#8] ∧ 7 < (8#8 : Byte).toNat ∧ (2#8 : Byte) = channelCode .b ∧
      telegramKindOf 0x3D#8 = some .join ∧ 1 ≤ (1#8 : Byte).toNat ∧ (36#8 : Byte).toNat ≤ 36 ∧ (7#8 : Byte).toNat ≤ 7 ∧
      (integrity referenceBurst = some (.telegram referenceTelegram) ∧ (truck .run bare).seq.timer ≠ .stopped ∧
        (truck .run bare).modes.mode = .run) :=
  ⟨truck_ready _ _, rfl, by decide +kernel⟩

theorem witness_BeaconSentCountsItsOffers :
    let o : Position := { wheel .offered 0x0C44F190#32 with offer := some ⟨6, candidate 0x0C44F190#32⟩ }
    let s : State := { truck .run [vacant, vacant, vacant, o] with seq := { (truck .run bare).seq with txKey := true } }
    s.positions.length = 32 ∧ (truck .run bare).seq.txKey = false ∧ s.seq.txKey = true ∧ s.seq.beacon = some beacon ∧
      (∀ e ∈ beacon.offers, 1 ≤ e.slot ∧ e.slot ≤ 32) ∧
      (beacon.offers.filter (fun e => e.isOffer)).Pairwise (fun x y => x.slot ≠ y.slot) ∧
      ((after .beaconSent s).pos 11).offer = some ⟨5, candidate 0x0C44F190#32⟩ := by decide +kernel

/-- Also the witness of CandidatesAgeOut: a part whose frame end makes the checks, and one whose does not. -/
theorem witness_SilenceCheckMakesMissing :
    let s := truck .run bare
    s.positions.length = 32 ∧ s.modes.mode ≠ .config ∧ s.seq.timer ≠ .stopped ∧ s.modes.pending ≠ some .config ∧
      State.reset.positions.length = 32 ∧ State.reset.modes.mode = .config ∧ State.reset.seq.timer = .stopped ∧
      ({ s with modes := ⟨.run, some .config, .laden⟩ } : State).modes.pending = some .config ∧
      s.joinWork = .due ∧ ({ s with joinWork := .agedOut } : State).joinWork ≠ .due ∧
      (let w := truck .run (holding .assigned)
       w.store.entries.length + w.silenceNotices.length ≤ 8 ∧
         w.silenceNotices = [(.alarm 10 .missing .raised 1500#32 none none, 0)]) ∧
      10 ≤ (1500#32 - 1490#32 : FrameNo).toNat ∧ ¬10 ≤ (1500#32 - 1491#32 : FrameNo).toNat := by decide +kernel

/-- A position silent, an offer and a learn run out, a learn that goes on. -/
def ending (mode : Mode) : State :=
  truck mode [wheel .assigned 1#32, { vacant with state := .learning, learn := some 1 },
    { vacant with state := .learning, learn := some 2 }, { wheel .offered 2#32 with offer := some ⟨0, candidate 2#32⟩ }]

/-- The rows from each stage of the work, with room in the list and in the store, and with a full list. -/
theorem witness_OffersAndLearnsExpire :
    let s := ending .run
    (s.positions.length = 32 ∧ s.modes.mode ≠ .config ∧ s.seq.timer ≠ .stopped ∧ s.modes.pending ≠ some .config) ∧
      (s.joinWork = .due ∧ s.join.candidates.length ≤ 8 ∧ (s.young ++ s.returned).length ≤ 8 ∧
        s.store.transmitter = .idle ∧ s.store.entries = [] ∧ s.offerNotices = [(.bind 11 (some 2#32) .failedTimeout, 3)]) ∧
      (let full : State := { s with join := { s.join with candidates := List.replicate 8 (candidate 1#32) } }
       8 < (full.young ++ full.returned).length ∧ full.returned ≠ []) ∧
      (let u := after .offerExpiry s
       u.joinWork = .offersExpired ∧ u.learnNotices = [(.bind 9 none .failedTimeout, 3)] ∧
         u.store.transmitter = .sendingNotice ∧ u.store.entries.length + u.learnNotices.length ≤ 8 ∧
         ((after .learnExpiry u).pos 10).learn = some 1 ∧ (after .learnExpiry u).joinWork = .learnsCounted) := by
  decide +kernel

theorem witness_FrameEndStartsTheNextFrame :
    let s := ending .park
    (ending .test).modes.mode = .test ∧ (s.young ++ s.returned).length ≤ 8 ∧ s.store.entries = [] ∧
      s.store.entries.length + s.silenceNotices.length + s.offerNotices.length + s.learnNotices.length = 3 ∧
      s.positions.length = 32 ∧ s.modes.mode ≠ .config ∧ s.seq.timer ≠ .stopped ∧ s.modes.pending = none ∧ s.seq.txKey = false ∧
      ((after .frameEnd s).pos 8).state = .missing ∧ ((after .frameEnd s).pos 10).learn = some 1 ∧
      ((after .frameEnd s).pos 11).state = .vacant := by
  delta after exec execFrameEnd execModeChange State.frameEnd State.frameEndWork
  generalize Config.joinWorkFirst = joinFirst
  cases joinFirst <;> decide +kernel

theorem witness_ChangeToConfigAtAFrameEnd :
    let s : State := { truck .run (holding .active) with modes := ⟨.run, some .config, .laden⟩, engine := .busy reportInFlight }
    s.positions.length = 32 ∧ s.modes.mode ≠ .config ∧ s.seq.timer ≠ .stopped ∧ s.modes.pending = some .config ∧
      ((after .frameEnd s).pos 10).state = .assigned ∧
      (let u : State := { ending .run with modes := ⟨.run, some .config, .laden⟩ }
       (after .frameEnd u).store.shown = [(.bind 9 none .failedMode, 3), (.bind 10 none .failedMode, 3),
         (.bind 11 (some 2#32) .failedMode, 3), (.mode .config .command, 1)]) := by decide +kernel

theorem witness_ChangeAmongRunParkTest :
    let s : State := { truck .run (holding .active) with modes := ⟨.run, some .test, .laden⟩, engine := .busy reportInFlight }
    let u : State := { ending .run with modes := ⟨.run, some .park, .laden⟩ }
    (s.seq.txKey = false ∧ Mode.park ≠ .test ∧ s.join.candidates.length ≤ 8 ∧ (u.young ++ u.returned).length ≤ 8 ∧
      u.store.entries = [] ∧
      u.store.entries.length + u.silenceNotices.length + u.offerNotices.length + u.learnNotices.length = 3) ∧
    s.positions.length = 32 ∧ s.modes.mode ≠ .config ∧ s.seq.timer ≠ .stopped ∧ s.modes.pending = some .test ∧
      Mode.test ≠ .config ∧ (s.pos 10).state.bound = true := by decide +kernel

/-- An idle engine before a REPORT whose binding is gone and a JOIN: it takes the JOIN. -/
theorem witness_EngineStartsOnTheHead :
    let join : QueueEntry := ⟨joinOf 9#32 true, 34, .a, 1500#32⟩
    let s : State := { truck .run bare with queue := [⟨referenceTelegram, 11, .a, 1500#32⟩, join] }
    s.engine = .idle ∧ (after .assessmentStart s).engine = .busy ⟨join, none, false, false⟩ ∧
      (after .assessmentStart s).queue = [] ∧
      (after .assessmentStart { truck .run (holding .active) with queue := s.queue }).queue = [join] := by decide +kernel

theorem witness_BrokenReportsLeaveNoTrace :
    let s : State := { truck .run bare with engine := .busy reportInFlight }
    s.engine = .busy reportInFlight ∧ reportInFlight.capture = some (capturedWith []) ∧ s.queue = [] ∧
      ({ reportInFlight with voidMark := true } : InFlight).voidMark = true ∧
      (s.pos (reportInFlight.entry.slot - 1)).state ∉ [.assigned, .active, .missing] ∧
      ((truck .run [vacant, vacant, wheel .active 1#32, vacant]).pos 10).sensorId ≠ some reportInFlight.entry.telegram.id := by
  decide +kernel

theorem witness_TakenReportsWriteAndJudge :
    let s : State := { truck .run (holding .missing) with engine := .busy reportInFlight }
    s.engine = .busy reportInFlight ∧ reportInFlight.capture = some (capturedWith []) ∧ reportInFlight.voidMark = false ∧
      (s.pos (reportInFlight.entry.slot - 1)).state ∈ [.assigned, .active, .missing] ∧
      (s.pos (reportInFlight.entry.slot - 1)).sensorId = some reportInFlight.entry.telegram.id ∧ s.queue = [] ∧
      s.store.entries = [] := by
  decide +kernel

/-- The notices of one completion with readings on: CONDITION, ALARM RAISED, then READING in place of a waiting one. -/
theorem test_notices_of_a_completion :
    let bad : Telegram := { referenceTelegram with temperatureCode := 255#8 }
    let w : InFlight := { reportInFlight with entry := ⟨bad, 11, .a, 1500#32⟩ }
    let old : Entry := ⟨.reading 10 none none none 5#3 none 1400#32, 7, .waiting⟩
    let s : State := { truck .run (holding .active) with engine := .busy w }
    (after .reportCompletion { s with store := { s.store with readings := true, transmitter := .sendingReply
                                                              entries := [old], attn := true } }).store.shown =
      [(.condition .invalidCode 1500#32, 4), (.alarm 10 .sensorFault .raised 1500#32 none none, 2),
       (.reading 10 (some 720) none none 6#3 none 1500#32, 7)] := by decide +kernel

theorem witness_GaugesAreRoundedAndClamped :
    (4094 ≤ 4094 ∧ 50 ≤ 50 ∧ 50 ≤ 110 ∧ 40 ≤ 40 ∧ (-50 : Int) ≤ -50 ∧ (-50 : Int) ≤ 204) ∧ coldAbsolute 4094 40 (-50) = 5746 := by
  decide +kernel

theorem witness_WindowSpacingAndLossRate :
    (slowLoss.length ≤ 8 ∧
      slowLoss.IsChain (fun a b => 60 ≤ (b.frame - a.frame).toNat ∧ (b.frame - a.frame).toNat ≤ 3 * 60)) ∧
      (slowLoss.take 3).length < 4 ∧
      slowLoss = ⟨1200#32, 610⟩ :: [⟨1260#32, 607⟩, ⟨1320#32, 605⟩] ++ [⟨1380#32, 603⟩] ∧
      (1380#32 : FrameNo) ≠ 1200#32 ∧ (3 * 60 < (1561#32 - 1380#32 : FrameNo).toNat ∧
        (1560#32 - 1380#32 : FrameNo).toNat ≤ 3 * 60 ∧ (1439#32 - 1380#32 : FrameNo).toNat < 60 ∧
        60 ≤ (1440#32 - 1380#32 : FrameNo).toNat) ∧ LoadState.laden ≠ .tipping ∧
      2 ≤ [(⟨1260#32, 607⟩ : Sample), ⟨1320#32, 605⟩].length := by decide +kernel

/-- The default limits are in range, and a REPORT of 500 kPa at 120 °C raises LOW_ALARM and HOT_ALARM; the cases of the ten
kinds: with a cold gauge and without, with a rate and without, with a usable partner and without. -/
theorem witness_VerdictsLeaveAGap :
    let e : QueueEntry := ⟨{ referenceTelegram with pressureCode := 500#12, temperatureCode := 170#8 }, 11, .a, 1500#32⟩
    let c := capturedWith []
    c.limits.inRange = true ∧ verdict e c (assess e c) .active .lowAlarm = some ⟨true, false⟩ ∧
      verdict e c (assess e c) .active .hotAlarm = some ⟨true, false⟩ ∧ ({ c with load := .tipping } : Capture).load = .tipping ∧
      c.load ≠ .tipping ∧ (assess e c).rate = none ∧ e.telegram.flags.fastLoss = false ∧
      (assess e (capturedWith slowLoss)).rate ≠ none ∧
      (let bad : QueueEntry := ⟨{ referenceTelegram with temperatureCode := 255#8 }, 11, .a, 1500#32⟩
       (assess bad c).cold = none ∧ (assess bad c).temperature = none) ∧
      (let twin : Capture := { c with partner := some ⟨.missing, some 600, some 1491#32⟩ }
       twin.axle.twin = true ∧ PosState.missing ∈ [PosState.assigned, .active, .missing] ∧
         (twin.startFrame - 1491#32).toNat < twin.silenceLimit ∧
         verdict e twin (assess e twin) .active .dualImbalance = some ⟨true, false⟩) := by
  decide +kernel

/-- HIGH_WARN with its confirm count of 3 and two disagreeing verdicts met. -/
theorem witness_ConfirmationTakesCVerdicts :
    let s := (truck .run (holding .active)).setAlarm 10 .highWarn ⟨false, false, 2⟩
    let a := (s.pos 10).alarms.get .highWarn
    let v : Verdict := ⟨true, false⟩
    10 < s.positions.length ∧ Kind.highWarn ≠ .missing ∧ (s.kinds.get .highWarn).confirm = some 3 ∧ a.count < 3 ∧
      (if a.active then !v.clears else v.raises) ≠ a.active ∧
      ((s.judgeKind 10 1500#32 .highWarn (some v)).pos 10).alarms.get .highWarn = ⟨true, true, 0⟩ := by decide +kernel

theorem witness_AlarmNoticesFollowClass :
    let raised : Entry := ⟨.alarm 31 .leak .raised 1500#32 none none, 2, .waiting⟩
    let s := { truck .run bare with store := (truck .run bare).store.withEntries [raised] }
    31 < s.positions.length ∧ raised.waits = true ∧ (truck .run bare).store.entries = [] ∧
      (truck .run bare).store.attn = !(truck .run bare).store.entries.isEmpty := by decide +kernel

theorem witness_JoinDecisionSortsOut :
    let w := joinInFlight 0x0C44F7A3#32 true
    let foreign := joinInFlight 0x6E2D0418#32 true
    let busy := fun (m : Mode) (rs : List Position) (v : InFlight) => { truck m rs with engine := .busy v }
    let id := w.entry.telegram.id
    ((busy .config bare w).engine = .busy w ∧ w.capture = none ∧ (busy .config bare w).queue = [] ∧
      (busy .config bare w).modes.mode = .config ∧ (busy .run bare w).modes.mode ≠ .config) ∧
      (∃ r ∈ (busy .run [wheel .missing id, vacant, vacant, vacant] w).positions, r.state ∈ [PosState.assigned, .active, .missing] ∧
        r.sensorId = some id) ∧
      (∃ r ∈ (busy .run [wheel .offered id, vacant, vacant, vacant] w).positions, r.state ∈ [PosState.offered] ∧ r.sensorId = some id) ∧
      (¬∃ r ∈ (busy .run bare w).positions, r.state ∈ [PosState.assigned, .active, .missing, .offered] ∧ r.sensorId = some id) ∧
      admits (busy .run bare w).join.filters foreign.entry.telegram.id = false ∧ admits (busy .run bare w).join.filters id = true ∧
      (∀ c ∈ List.replicate 8 (candidate 1#32), c.id ≠ id) ∧ 8 ≤ (List.replicate 8 (candidate 1#32)).length := by decide +kernel

/-- Both ways into the list: a candidate in its midst that is refreshed, and a new one after seven others; with a LEARNING
position. -/
theorem witness_AdmittedJoinsMakeCandidates :
    let id : SensorId := 0x0C44F7A3#32
    let w := joinInFlight id true
    let base := truck .run [vacant, vacant, vacant, { vacant with state := .learning, learn := some 147 }]
    let s : State := { base with engine := .busy w, join := { base.join with candidates := [candidate 1#32, candidate id, candidate 2#32] } }
    let seven := (List.range 7).map (fun n => candidate (BitVec.ofNat 32 n))
    let full : State := { base with engine := .busy w, join := { base.join with candidates := seven } }
    (s.engine = .busy w ∧ w.capture = none ∧ s.queue = [] ∧ s.positions.length = 32 ∧ s.modes.mode ≠ .config ∧
      admits s.join.filters id = true) ∧
      (∀ r ∈ s.positions, r.state ∈ [PosState.offered, .assigned, .active, .missing] → r.sensorId ≠ some id) ∧
      (s.join.candidates.map Candidate.id).Nodup ∧ s.join.candidates = [candidate 1#32] ++ candidate id :: [candidate 2#32] ∧
      ((full.join.candidates.map Candidate.id).Nodup ∧ full.join.candidates.length < 8 ∧ ∀ x ∈ full.join.candidates, x.id ≠ id) ∧
      ((s.pos 11).state = .learning ∧ ∀ q < 11, (s.pos q).state ≠ .learning) ∧
      ((after .joinCompletion s).pos 11).sensorId = some id := by decide +kernel

/-- A truck in RUN with a bound wheel and a frame end waiting. -/
def moving : State := { truck .run (holding .active) with pending := [.frameEnd] }

theorem moving_steps : ∃ t, step moving = .next t := ⟨_, rfl⟩

theorem witness_FrameEndAfterItsBeacon :
    exec .beaconSent moving = .next moving ∧ moving.modes.mode ≠ .config ∧ moving.seq.timer ≠ .stopped := ⟨rfl, by decide⟩

theorem witness_StepKeepsCapacities : moving.Capacities := by unfold State.Capacities; decide +kernel

theorem witness_StepKeepsLines : moving.LinesTrue := by unfold State.LinesTrue; decide +kernel

theorem witness_StepKeepsTransmitter : moving.TransmitterSound := by
  refine ⟨rfl, ?_, rfl, .inr rfl⟩
  decide +kernel

theorem witness_StepKeepsRanges : moving.InRange := by
  have kinds : ∀ k, (moving.kinds.get k).inRange k = true := fun k => by cases k <;> rfl
  exact ⟨by decide +kernel, by decide +kernel, by decide +kernel, by decide +kernel, by decide +kernel, by decide +kernel, kinds,
    by decide +kernel⟩

theorem witness_StepKeepsBindings : moving.BindingsSound := by unfold State.BindingsSound; decide +kernel

theorem witness_StepKeepsModeAndCounts : moving.BindingsSound ∧ moving.ModeSound ∧ moving.CountsBelow := by
  refine ⟨witness_StepKeepsBindings, by unfold State.ModeSound; decide +kernel, fun r hr k => ?_⟩
  cases k <;> revert r hr <;> decide +kernel

theorem witness_StepKeepsFittedness : moving.FittedExactly := by unfold State.FittedExactly; decide +kernel

theorem witness_StepKeepsQueueAndReadings : moving.EngineEager ∧ moving.ReadingsSingle := by
  unfold State.EngineEager State.ReadingsSingle
  decide +kernel

end Sys2Proof.Tests
end

/-! PROOF. The JOIN decision at a JOIN completion (R43, R44): the steps that make no candidate. -/

namespace Sys2Proof.Machine

/-! ## Who holds an ID -/

/-- A position in one of the listed states holds the ID (R6). -/
def State.heldIn (s : State) (states : List PosState) (id : SensorId) : Prop :=
  ∃ r ∈ s.positions, r.state ∈ states ∧ r.sensorId = some id

theorem State.idHeld_iff {f : PosState → Bool} {states : List PosState} (hf : ∀ x, f x = true ↔ x ∈ states) (s : State)
    (id : SensorId) : s.idHeld f id = true ↔ s.heldIn states id := by
  simp [State.idHeld, State.heldIn, Position.holds, hf]

theorem State.idHeld_bound_iff (s : State) (id : SensorId) :
    s.idHeld PosState.bound id = true ↔ s.heldIn [.assigned, .active, .missing] id :=
  s.idHeld_iff (fun x => by cases x <;> decide) id

theorem State.idHeld_offered_iff (s : State) (id : SensorId) :
    s.idHeld (· == .offered) id = true ↔ s.heldIn [.offered] id :=
  s.idHeld_iff (fun x => by cases x <;> decide) id

theorem State.heldIn_mono {s : State} {xs ys : List PosState} {id : SensorId} (hsub : xs ⊆ ys) (h : s.heldIn xs id) :
    s.heldIn ys id := by
  obtain ⟨r, hr, hstate, hid⟩ := h
  exact ⟨r, hr, hsub hstate, hid⟩

/-! ## What each step of the decision does -/

/-- A bound sensor's ID joins the tail of the re-offer list, unless it stands there or the list is full (R44 step 1). -/
theorem State.reoffer_eq (s : State) (id : SensorId) :
    s.reoffer id = s.setReoffers
      (if id ∈ s.join.reoffers ∨ 4 ≤ s.join.reoffers.length then s.join.reoffers else s.join.reoffers ++ [id]) := by
  unfold State.reoffer
  by_cases hmem : id ∈ s.join.reoffers
  · rw [if_pos hmem, if_pos (Or.inl hmem)]; rfl
  · by_cases hfull : 4 ≤ s.join.reoffers.length
    · rw [if_neg hmem, if_neg (by simpa [Config.reoffers] using hfull), if_pos (Or.inr hfull)]; rfl
    · rw [if_neg hmem, if_pos (by simpa [Config.reoffers] using hfull), if_neg (by simp [hmem, hfull])]

/-- A new candidate that meets a full list is dropped with CANDIDATE_OVERRUN (R45 step 5). -/
theorem State.admitJoin_full {s : State} {e : QueueEntry} (hnew : ∀ c ∈ s.join.candidates, c.id ≠ e.telegram.id)
    (hfull : 8 ≤ s.join.candidates.length) : s.admitJoin e = s.raise .candidateOverrun := by
  have hnone : ¬(findCandidate e.telegram.id s.join.candidates).isSome = true := by
    simpa [findCandidate] using hnew
  unfold State.admitJoin
  rw [if_neg hnone, if_neg (by simpa [Config.candidates] using hfull)]

/-! ## The decision, by the step that ends it -/

section
variable {s : State} {e : QueueEntry}

theorem State.joinDecision_config (hm : s.modes.mode = .config) : s.joinDecision e = s := if_pos hm

theorem State.joinDecision_bound (hm : s.modes.mode ≠ .config)
    (hb : s.heldIn [.assigned, .active, .missing] e.telegram.id) : s.joinDecision e = s.reoffer e.telegram.id := by
  unfold State.joinDecision
  rw [if_neg hm, if_pos ((s.idHeld_bound_iff _).mpr hb)]

theorem State.joinDecision_offered (hm : s.modes.mode ≠ .config)
    (hb : ¬s.heldIn [.assigned, .active, .missing] e.telegram.id) (ho : s.heldIn [.offered] e.telegram.id) :
    s.joinDecision e = s := by
  unfold State.joinDecision
  rw [if_neg hm, if_neg (mt (s.idHeld_bound_iff _).mp hb), if_pos ((s.idHeld_offered_iff _).mpr ho)]

/-- The ID of a sensor that is neither bound nor under offer is judged by the filters (R44 step 3). -/
theorem State.joinDecision_free (hm : s.modes.mode ≠ .config)
    (hfree : ¬s.heldIn [.assigned, .active, .missing, .offered] e.telegram.id) :
    s.joinDecision e = if admits s.join.filters e.telegram.id then s.admitJoin e else s := by
  have hbound := mt (State.heldIn_mono (xs := [.assigned, .active, .missing]) (by decide)) hfree
  have hoffer := mt (State.heldIn_mono (xs := [.offered]) (by decide)) hfree
  unfold State.joinDecision
  rw [if_neg hm, if_neg (mt (s.idHeld_bound_iff _).mp hbound), if_neg (mt (s.idHeld_offered_iff _).mp hoffer)]

end

/-! ## The completion -/

/-- Raising a condition neither reads nor moves the engine (R128). -/
theorem State.raise_setEngine (s : State) (c : Condition) (x : Engine) :
    State.raise { s with engine := x } c = { s.raise c with engine := x } := by
  unfold State.raise State.queueNotice State.raiseNoticeLost
  dsimp only
  split_ifs <;> rfl

/-- An idle engine with nothing in the queue stays idle (R67). -/
theorem exec_assessmentStart_empty {t : State} (hidle : t.engine = .idle) (hq : t.queue = []) :
    exec .assessmentStart t = .next t := by
  have hrun : t.runEngine = { t with queue := [] } := by simp only [State.runEngine, hidle, hq, State.takeFrom]
  calc exec .assessmentStart t = .next t.runEngine := rfl
    _ = .next t := by rw [hrun, ← hq]

/-- The engine hands a JOIN to the join controller, becomes idle, and then takes from the queue (R43, R70). -/
theorem exec_joinCompletion {s : State} {w : InFlight} (hb : s.engine = .busy w) (hc : w.capture = none) :
    exec .joinCompletion s = exec .assessmentStart { s.joinDecision w.entry with engine := .idle } := by
  change execJoinCompletion s = _
  simp only [execJoinCompletion, hb, hc]
  rfl

/-- A JOIN completion whose decision leaves the queue goes on from the decided state, and ends there with nothing waiting. -/
theorem exec_joinCompletion_of_decision {s t : State} {w : InFlight} (hb : s.engine = .busy w) (hc : w.capture = none)
    (ht : { s.joinDecision w.entry with engine := .idle } = t) (hkeep : t.queue = s.queue) :
    exec .joinCompletion s = exec .assessmentStart t ∧ (s.queue = [] → exec .joinCompletion s = .next t) := by
  have hgo : exec .joinCompletion s = exec .assessmentStart t := ht ▸ exec_joinCompletion hb hc
  have hidle : t.engine = .idle := ht ▸ rfl
  exact ⟨hgo, fun hq => hgo.trans (exec_assessmentStart_empty hidle (hkeep.trans hq))⟩

/-- Settles O50: each clause is the decision's equation for the step that ends it, carried through the completion. -/
theorem joinDecisionSortsOut : Obligations.JoinDecisionSortsOut := by
  unfold Obligations.JoinDecisionSortsOut
  intro s w hb hc done id idle held
  have completes {t : State} (ht : { s.joinDecision w.entry with engine := .idle } = t) (hkeep : t.queue = s.queue) :
      done t := exec_joinCompletion_of_decision hb hc ht hkeep
  refine ⟨fun hconfig => ?config, fun hm hbound => ?rejoin, fun hm hunbound hoffered => ?underOffer,
    fun hm hfree hforeign => ?notAdmitted, fun hm hfree hadmitted hnew hfull => ?listFull⟩
  case config => exact completes (by rw [State.joinDecision_config hconfig]) rfl
  case rejoin => exact completes (by rw [State.joinDecision_bound hm hbound, State.reoffer_eq]; rfl) rfl
  case underOffer => exact completes (by rw [State.joinDecision_offered hm hunbound hoffered]) rfl
  case notAdmitted =>
    have hdrop : s.joinDecision w.entry = s := by simp [State.joinDecision_free hm hfree, id, hforeign]
    exact completes (by rw [hdrop]) rfl
  case listFull =>
    have hraise : s.joinDecision w.entry = s.raise .candidateOverrun := by
      rw [State.joinDecision_free hm hfree, if_pos hadmitted, State.admitJoin_full hnew hfull]
    exact completes (by rw [hraise, ← State.raise_setEngine]) (State.raise_queue _ _)

end Sys2Proof.Machine

/-! PROOF. SET_LIMITS in CONFIG and in the other modes (R83). -/

namespace Sys2Proof.Machine

/-! ## A command's answer -/

/-- A command that passes the common checks ends in its owner's state, with its owner's answer given, when the owner leaves
the notice store (R155, R156). -/
theorem State.commandFrame_answered {s t : State} {c : Command} {o : Owner} {p : List Byte} {a : Answer} (h : s.Ready)
    (hl : p.length = c.payloadLength) (hm : c.acceptedIn s.modes.mode = true) (ho : o p s.taking = (t, a))
    (ht : t.store = s.taking.store) : s.commandFrame c o p = { t with store := s.store.replied c.code a } := by
  rw [State.commandFrame_ready h hl hm, ho, State.answered_eq ht]

/-- The result is CLAMPED exactly when the stored value is another than the given one (R157). -/
theorem Answer.doneOrClamped_bne {α : Type} [DecidableEq α] (stored given : α) (data : List Byte) :
    Answer.doneOrClamped (stored != given) data = ⟨if stored = given then .done else .clamped, none, data⟩ := by
  by_cases h : stored = given <;> simp [Answer.doneOrClamped, h]

/-! ## Payload and ranges -/

/-- A value brought to the nearer end of its range is a maximum of a minimum. -/
theorem clampNat_eq {lo hi : Nat} (h : lo ≤ hi) (n : Nat) : clampNat lo hi n = max lo (min hi n) := by
  unfold clampNat
  split_ifs <;> omega

/-- A two-byte field carries its most significant byte first (R173). -/
theorem toNat_read16 (hi lo : Byte) : (read16 hi lo).toNat = 256 * hi.toNat + lo.toNat := by
  rw [read16, BitVec.toNat_append, ← Nat.shiftLeft_add_eq_or_of_lt lo.isLt, Nat.shiftLeft_eq, mul_comm]

/-- The clamped limits (R83 step 1); the upper end of the interval's range never binds on a byte. -/
theorem Limits.clamp_eq {l : Limits} (hi : l.interval ≤ 255) :
    l.clamp = ⟨min 40 l.tref, max 1 (min 50 l.lowWarnPct), max 2 (min 80 l.lowAlarmPct), max 1 (min 50 l.highWarnPct),
      min 100 l.hysteresis, max 40 (min 150 l.hotWarn), max 41 (min 180 l.hotAlarm), max 1 (min 200 l.leak),
      max 10 (min 400 l.dual), max 10 l.interval⟩ := by
  simp [Limits.clamp, clampNat_eq, hi]

/-! ## The owner -/

section
variable {s : State} {payload : List Byte} {l : Limits}

/-- An inconsistent set is refused with the limits still held, and nothing is stored (R83 step 2). -/
theorem ownSetLimits_inconsistent (hp : limitsOf payload = some l)
    (h : l.clamp.lowAlarmPct ≤ l.clamp.lowWarnPct ∨ l.clamp.hotAlarm ≤ l.clamp.hotWarn) :
    ownSetLimits payload s = (s, Answer.refused .badArgument s.config.limits.bytes) := by
  simp only [ownSetLimits, hp, if_pos h]

/-- A consistent set is stored whole, clamped (R83 step 3). -/
theorem ownSetLimits_consistent (hp : limitsOf payload = some l) (hpct : l.clamp.lowWarnPct < l.clamp.lowAlarmPct)
    (hhot : l.clamp.hotWarn < l.clamp.hotAlarm) :
    ownSetLimits payload s = ({ s with config := { s.config with limits := l.clamp } },
      ⟨if l.clamp = l then .done else .clamped, none, l.clamp.bytes⟩) := by
  have h : ¬(l.clamp.lowAlarmPct ≤ l.clamp.lowWarnPct ∨ l.clamp.hotAlarm ≤ l.clamp.hotWarn) := by omega
  simp only [ownSetLimits, hp, if_neg h, Answer.doneOrClamped_bne]

end

/-! ## The command -/

section
variable {s : State} {payload : List Byte} {l : Limits}

/-- SET_LIMITS is a command of CONFIG alone (R156 check 3). -/
theorem acceptedIn_setLimits (m : Mode) : Command.acceptedIn .setLimits m = true ↔ m = .config := by
  simp [Command.acceptedIn]

theorem exec_setLimits_wrongMode (h : s.Ready) (hlen : payload.length = 11) (hm : s.modes.mode ≠ .config) :
    exec (.setLimits payload) s = .next (s.replied 0x11#8 ⟨.refused, some .wrongMode, []⟩) := by
  have hnot : Command.acceptedIn .setLimits s.modes.mode = false :=
    Bool.eq_false_iff.mpr (mt (acceptedIn_setLimits _).mp hm)
  exact congrArg _ (State.commandFrame_wrongMode h hlen hnot ownSetLimits)

/-- In CONFIG the command is what its owner makes of it. -/
theorem exec_setLimits_config {t : State} {a : Answer} (h : s.Ready) (hlen : payload.length = 11)
    (hm : s.modes.mode = .config) (ho : ownSetLimits payload s.taking = (t, a)) (ht : t.store = s.taking.store) :
    exec (.setLimits payload) s = .next { t with store := s.store.replied 0x11#8 a } :=
  congrArg _ (State.commandFrame_answered (c := .setLimits) h hlen ((acceptedIn_setLimits _).mpr hm) ho ht)

end

/-- Settles O20: the payload is read as the asked limits, whose clamp is the new set; each clause is then the mode's or the
owner's rule. -/
theorem setLimitsClampsChecksStores : Obligations.SetLimitsClampsChecksStores := by
  unfold Obligations.SetLimitsClampsChecksStores
  intro s tref pw pa ph h tw ta lk d1 d0 i hready payload asked new
  have hread : limitsOf payload = some asked := by simp only [payload, asked, limitsOf, toNat_read16]
  have hnew : asked.clamp = new := Limits.clamp_eq (Nat.le_of_lt_succ i.isLt)
  refine ⟨fun hm => ?wrongMode, fun hm hbad => ?inconsistent, fun hm hpct hhot => ?consistent⟩
  case wrongMode => exact exec_setLimits_wrongMode hready rfl hm
  case inconsistent =>
    rw [← hnew] at hbad
    exact exec_setLimits_config (t := s.taking) hready rfl hm (ownSetLimits_inconsistent hread hbad) rfl
  case consistent =>
    have howner := ownSetLimits_consistent (s := s.taking) hread (hnew ▸ hpct) (hnew ▸ hhot)
    rw [hnew] at howner
    exact exec_setLimits_config hready rfl hm howner rfl

end Sys2Proof.Machine

/-! PROOF. SET_MASK and CLEAR_CONDITIONS (R131, R132). -/

namespace Sys2Proof.Machine

/-! ## A set of conditions and its byte (R176) -/

/-- Bit 7 of a byte names no condition. -/
theorem condSetOf_bit7 {b : Byte} (h : b.getLsbD 7 = true) : condSetOf b = none := if_pos h

/-- A byte with bit 7 clear names the conditions of its low seven bits. -/
theorem condSetOf_noBit7 {b : Byte} (h : b.getLsbD 7 = false) : condSetOf b = some (b.setWidth 7) :=
  if_neg (Bool.eq_false_iff.mp h)

/-- A byte with bit 7 clear is read and written back unchanged. -/
theorem condSetByte_setWidth {b : Byte} (h : b.getLsbD 7 = false) : condSetByte (b.setWidth 7) = b := by
  apply BitVec.eq_of_getLsbD_eq
  intro i hi
  rcases Nat.lt_succ_iff_lt_or_eq.mp hi with hlow | rfl
  · simp [condSetByte, hi, hlow]
  · simpa [condSetByte] using h

theorem Condition.index_lt (c : Condition) : c.index < 7 := by cases c <;> decide

/-- A condition stands in the set read from a byte when its bit of the byte is set. -/
theorem condIn_setWidth (c : Condition) (b : Byte) : condIn c (b.setWidth 7) = b.getLsbD c.index := by
  simp [condIn, c.index_lt]

/-- Taking conditions out of a set leaves the conditions not named as they were. -/
theorem condIn_and_not (c : Condition) (cs m : CondSet) : condIn c (cs &&& ~~~m) = (condIn c cs && !condIn c m) := by
  simp [condIn, c.index_lt]

/-! ## The owners -/

section
variable {s : State} {b : Byte}

theorem ownSetMask_bit7 (h : b.getLsbD 7 = true) : ownSetMask [b] s = (s, ⟨.refused, some .badArgument, []⟩) := by
  simp only [ownSetMask, condSetOf_bit7 h, Answer.refused]

theorem ownSetMask_noBit7 (h : b.getLsbD 7 = false) :
    ownSetMask [b] s = ({ s with conds := { s.conds with mask := b.setWidth 7 } }, ⟨.done, none, [b]⟩) := by
  simp only [ownSetMask, condSetOf_noBit7 h, condSetByte_setWidth h, Answer.done]

theorem ownClearConditions_bit7 (h : b.getLsbD 7 = true) :
    ownClearConditions [b] s = (s, ⟨.refused, some .badArgument, []⟩) := by
  simp only [ownClearConditions, condSetOf_bit7 h, Answer.refused]

theorem ownClearConditions_noBit7 (h : b.getLsbD 7 = false) :
    ownClearConditions [b] s = ({ s with conds := { s.conds with set := s.conds.set &&& ~~~b.setWidth 7 } },
      ⟨.done, none, [s.conds.set.setWidth 8, (s.conds.set &&& ~~~b.setWidth 7).setWidth 8]⟩) := by
  simp only [ownClearConditions, condSetOf_noBit7 h, condSetByte, Answer.done]

end

/-! ## The commands: both are accepted in every mode, so each is what its owner makes of it -/

section
variable {s t : State} {b : Byte} {a : Answer}

theorem exec_setMask_answered (h : s.Ready) (ho : ownSetMask [b] s.taking = (t, a)) (ht : t.store = s.taking.store) :
    exec (.setMask [b]) s = .next { t with store := s.store.replied 0x15#8 a } :=
  congrArg _ (State.commandFrame_answered (c := .setMask) h rfl rfl ho ht)

theorem exec_clearConditions_answered (h : s.Ready) (ho : ownClearConditions [b] s.taking = (t, a))
    (ht : t.store = s.taking.store) :
    exec (.clearConditions [b]) s = .next { t with store := s.store.replied 0x43#8 a } :=
  congrArg _ (State.commandFrame_answered (c := .clearConditions) h rfl rfl ho ht)

end

/-- Settles O18: each clause is an owner's rule carried through the command; the cleared set is the old one without the
conditions that the byte names. -/
theorem maskAndClearConditions : Obligations.MaskAndClearConditions := by
  unfold Obligations.MaskAndClearConditions
  intro s b hready
  refine ⟨fun hbit => ⟨?maskRefused, ?clearRefused⟩,
    fun hbit => ⟨?masked, s.conds.set &&& ~~~b.setWidth 7, fun c => ?keeps, ?cleared⟩⟩
  case maskRefused => exact exec_setMask_answered (t := s.taking) hready (ownSetMask_bit7 hbit) rfl
  case clearRefused => exact exec_clearConditions_answered (t := s.taking) hready (ownClearConditions_bit7 hbit) rfl
  case masked => exact exec_setMask_answered hready (ownSetMask_noBit7 hbit) rfl
  case keeps => rw [condIn_and_not, condIn_setWidth]
  case cleared => exact exec_clearConditions_answered hready (ownClearConditions_noBit7 hbit) rfl

end Sys2Proof.Machine

/-! PROOF. The common checks and the modes of each command (R156). -/

namespace Sys2Proof.Machine

/-! ## A frame of any kind -/

/-- The row of a catalogue command completes the good frame of that command, with its owner (R155, R156). -/
theorem exec_instr (c : Command) (p : List Byte) (s : State) :
    exec (c.instr p) s = .next (s.commandFrame c (ownerOf s.port.hostSilent c) p) := by
  cases c <;> rfl

/-- A kind outside the catalogue is refused UNKNOWN_COMMAND and changes nothing (R156 check 1). -/
theorem State.anyFrame_unknown {s : State} (h : s.Ready) {kind : Byte} (hk : Command.ofKind kind = none) (p : List Byte) :
    s.anyFrame kind p = s.replied kind (Answer.refused .unknownCommand) := by
  obtain ⟨hreset, hreply⟩ := h
  calc s.anyFrame kind p
      = s.unknownFrame kind := by simp only [State.anyFrame, hk]
    _ = s.takeFrame kind (fun t => (t, Answer.refused .unknownCommand)) := by simp [State.unknownFrame, hreset]
    _ = s.taking.reply kind (Answer.refused .unknownCommand) := State.takeFrame_ready hreply _ _
    _ = s.replied kind (Answer.refused .unknownCommand) := State.answered_eq rfl

/-! ## The table of modes -/

/-- The commands that are not accepted in every mode, with the modes that refuse them (R156 check 3). -/
theorem acceptedIn_eq_false_iff (c : Command) (m : Mode) :
    c.acceptedIn m = false ↔
      (c ∈ [.setAxle, .setLimits, .setClass, .setFilter, .setLink] ∧ m ≠ .config) ∨
      (c ∈ [.learn, .bind, .cancel] ∧ m ≠ .run ∧ m ≠ .test) ∨ (c = .inject ∧ m ≠ .test) := by
  cases c <;> simp [Command.acceptedIn]

/-- Settles O7: each refusal is the rule of its check, carried through the command's row; a command that passes them all is
its owner's. -/
theorem commonChecksInOrder : Obligations.CommonChecksInOrder := by
  unfold Obligations.CommonChecksInOrder
  refine ⟨fun s hready => ⟨fun kind p hkind => ?unknown, fun c p hlen => ?badLength, fun c p hlen hmode => ?wrongMode,
    fun c p hlen hmode => ?owner⟩, acceptedIn_eq_false_iff, ?noCommandKinds⟩
  case unknown => exact congrArg _ (State.anyFrame_unknown hready hkind p)
  case badLength => exact (exec_instr c p s).trans (congrArg _ (State.commandFrame_badLength hready hlen _))
  case wrongMode => exact (exec_instr c p s).trans (congrArg _ (State.commandFrame_wrongMode hready hlen hmode _))
  case owner => exact (exec_instr c p s).trans (congrArg _ (State.commandFrame_ready hready hlen hmode _))
  case noCommandKinds => decide

end Sys2Proof.Machine

/-! PROOF. IDENTIFY, GET_STATUS, GET_WHEEL and GET_CANDIDATES (R162, R163, R17, R63). -/

namespace Sys2Proof.Machine

/-- A command whose owner only answers: the good frame counts, and its reply is all that follows (R155, R156). -/
theorem exec_instr_onlyAnswers {s : State} {c : Command} {p : List Byte} {a : Answer} (h : s.Ready)
    (hl : p.length = c.payloadLength) (hm : c.acceptedIn s.modes.mode = true)
    (ho : ownerOf s.port.hostSilent c p s.taking = (s.taking, a)) :
    exec (c.instr p) s = .next (s.replied c.code a) :=
  (exec_instr c p s).trans (congrArg _ (State.commandFrame_answered (t := s.taking) h hl hm ho rfl))

/-! ## GET_WHEEL's index byte (R17, R176) -/

section
variable {b : Byte} {s : State}

theorem indexOf_of_lt (h : b.toNat < 32) : indexOf b = some b.toNat := if_pos h

theorem indexOf_of_le (h : 32 ≤ b.toNat) : indexOf b = none := if_neg (Nat.not_lt.mpr h)

theorem ownGetWheel_index (h : b.toNat < 32) :
    ownGetWheel [b] s = (s, Answer.done ((s.pos b.toNat).bytes b.toNat)) := by simp only [ownGetWheel, indexOf_of_lt h]

theorem ownGetWheel_noIndex (h : 32 ≤ b.toNat) : ownGetWheel [b] s = (s, Answer.refused .badArgument) := by
  simp only [ownGetWheel, indexOf_of_le h]

end

/-! ## The fields of a record (R173, R178) -/

/-- A 32-bit value's bytes, cut out of it. -/
theorem bytes32_eq (x : BitVec 32) :
    bytes32 x = [x.extractLsb' 24 8, x.extractLsb' 16 8, x.extractLsb' 8 8, x.extractLsb' 0 8] := rfl

/-- An optional field has the same width whether it is present or absent. -/
theorem length_optField {α : Type} {width : Nat} {f : α → List Byte} (hf : ∀ a, (f a).length = width) (x : Option α) :
    (optField width f x).length = width + 1 := by
  cases x with
  | none => simp [optField]
  | some a => simp [optField, hf]

/-- An optional number is the optional 16-bit word of it. -/
theorem optField_u16 (x : Option Nat) : optField 2 u16 x = optField 2 bytes16 (x.map (BitVec.ofNat 16)) := by
  cases x <;> rfl

/-- An optional signed number is the optional 16-bit word of it. -/
theorem optField_i16 (x : Option Int) : optField 2 i16 x = optField 2 bytes16 (x.map (BitVec.ofInt 16)) := by
  cases x <;> rfl

/-- The flags stand as bits 0 to 2. -/
theorem SensorFlags.byte_eq (f : SensorFlags) :
    f.byte = (BitVec.ofBool f.fault ++ BitVec.ofBool f.fastLoss ++ BitVec.ofBool f.trigger).setWidth 8 := by
  obtain ⟨trigger, fastLoss, fault⟩ := f
  revert trigger fastLoss fault
  decide

/-- INVALID_CODE stands as bit 0, CLAMPED as bit 1. -/
theorem AssessConditions.byte_eq (c : AssessConditions) :
    c.byte = (BitVec.ofBool c.clamped ++ BitVec.ofBool c.invalidCode).setWidth 8 := by
  obtain ⟨invalidCode, clamped⟩ := c
  revert invalidCode clamped
  decide

/-- A sub-record's bits: active as bit 0, pending as bit 1. -/
theorem SubRecord.bytes_eq (a : SubRecord) :
    a.bytes = [(BitVec.ofBool a.pending ++ BitVec.ofBool a.active).setWidth 8, u8 a.count] := by
  obtain ⟨active, pending, count⟩ := a
  cases active <;> cases pending <;> simp [SubRecord.bytes]

/-- Every record is 62 bytes in GET_WHEEL's data. -/
theorem Position.length_bytes (p : Nat) (r : Position) : (r.bytes p).length = 62 := by
  have hkinds : (Kind.all.map (fun k => (r.alarms.get k).bytes)).flatten.length = 20 := rfl
  simp only [Position.bytes, List.length_append, hkinds, length_optField (width := 4) (f := bytes32) (fun _ => rfl),
    length_optField (width := 2) (f := u16) (fun _ => rfl), length_optField (width := 2) (f := i16) (fun _ => rfl),
    length_optField (width := 1) (f := fun b : BitVec 3 => [b.setWidth 8]) (fun _ => rfl),
    length_optField (width := 5) (f := fun o : Offer => u8 o.remaining :: bytes32 o.candidate.id) (fun _ => rfl),
    length_optField (width := 1) (f := fun n : Nat => [u8 n]) (fun _ => rfl)]
  rfl

/-- Settles O13: each owner leaves the state and answers with its data; GET_WHEEL's, field by field, is the record's. -/
theorem readingCommandsAnswer : Obligations.ReadingCommandsAnswer := by
  unfold Obligations.ReadingCommandsAnswer
  intro s hready
  refine ⟨?identify, ?status, fun b hb => ?noIndex, fun b hb => ?wheel, ?candidates⟩
  case identify => exact exec_instr_onlyAnswers (c := .identify) (a := Answer.done identity) hready rfl rfl rfl
  case status =>
    exact exec_instr_onlyAnswers (c := .getStatus) (a := Answer.done (s.taking.status s.port.hostSilent)) hready rfl rfl rfl
  case noIndex => exact exec_instr_onlyAnswers (c := .getWheel) hready rfl rfl (ownGetWheel_noIndex hb)
  case wheel =>
    intro r w two four data
    have hindex : u8 b.toNat = b := by simp [u8]
    have htwo : optField 2 bytes16 = two := by funext x; cases x <;> rfl
    have hfour : optField 4 bytes32 = four := by funext x; cases x <;> rfl
    have hdata : r.bytes b.toNat = data := by
      simp only [Position.bytes, hindex, optField_u16, optField_i16, htwo, hfour, bytes32_eq, SensorFlags.byte_eq,
        AssessConditions.byte_eq, SubRecord.bytes_eq, data, List.append_assoc, List.cons_append, List.nil_append]
      clear_value two four r
      -- Field by field, the two sides differ only in the optional fields that the statement writes out as cases.
      congr
      · cases r.wheel.battery <;> rfl
      · cases r.offer <;> rfl
      · cases r.learn <;> rfl
    exact ⟨hdata ▸ r.length_bytes _,
      hdata ▸ exec_instr_onlyAnswers (c := .getWheel) hready rfl rfl (ownGetWheel_index hb)⟩
  case candidates => exact exec_instr_onlyAnswers (c := .getCandidates) hready rfl rfl rfl

end Sys2Proof.Machine

/-! PROOF. The notice store's operations, exactly: the choice at a boundary, entry into a full store, and what a SENDING
entry keeps (R137 to R146). -/

namespace Sys2Proof.Machine

/-! ## The choice (R145 step 2) -/

/-- The entry chosen next is the first among the waiting entries with the lowest number, and it is the one that is marked. -/
theorem nextWaiting_split {es : List Entry} {e : Entry} (h : nextWaiting es = some e) :
    ∃ older younger, es = older ++ e :: younger ∧ e.waits = true ∧
      (∀ x ∈ older, x.waits = true → e.priority < x.priority) ∧
      (∀ x ∈ younger, x.waits = true → e.priority ≤ x.priority) ∧
      markSending e.priority es = older ++ { e with state := .sending } :: younger := by
  induction es generalizing e with
  | nil => simp [nextWaiting] at h
  | cons a es ih =>
    by_cases ha : a.waits = true
    · cases hn : nextWaiting es with
      | none =>
        have hnone := nextWaiting_eq_none.mp hn
        obtain rfl : a = e := by simpa [nextWaiting, ha, hn] using h
        exact ⟨[], es, rfl, ha, by simp, fun x hx hw => absurd hw (by simp [hnone x hx]), by simp [markSending, ha]⟩
      | some f =>
        obtain ⟨older, younger, hes, hf, hold, hyoung, hmark⟩ := ih hn
        by_cases hlt : f.priority < a.priority
        · obtain rfl : f = e := by simpa [nextWaiting, ha, hn, hlt] using h
          refine ⟨a :: older, younger, by rw [hes]; rfl, hf, ?_, hyoung, ?_⟩
          · intro x hx hw
            rcases List.mem_cons.mp hx with rfl | hx
            · exact hlt
            · exact hold x hx hw
          · simp [markSending, hmark, hlt.ne']
        · obtain rfl : a = e := by simpa [nextWaiting, ha, hn, hlt] using h
          refine ⟨[], es, rfl, ha, by simp, ?_, by simp [markSending, ha]⟩
          intro x hx hw
          rw [hes] at hx
          rcases List.mem_append.mp hx with hx | hx
          · have := hold x hx hw; omega
          · rcases List.mem_cons.mp hx with rfl | hx
            · omega
            · have := hyoung x hx hw; omega
    · obtain ⟨older, younger, hes, hf, hold, hyoung, hmark⟩ := ih (by simpa [nextWaiting, ha] using h)
      refine ⟨a :: older, younger, by rw [hes]; rfl, hf, ?_, hyoung, by simp [markSending, ha, hmark]⟩
      intro x hx hw
      rcases List.mem_cons.mp hx with rfl | hx
      · exact absurd hw ha
      · exact hold x hx hw

/-! ## A full store (R142) -/

/-- The entry displaced is the last waiting one of the number. -/
theorem removeYoungest_split {es : List Entry} {p : Nat} (h : ∃ e ∈ es, e.waits = true ∧ e.priority = p) :
    ∃ older e younger, es = older ++ e :: younger ∧ e.waits = true ∧ e.priority = p ∧
      (∀ x ∈ younger, x.waits = true → x.priority ≠ p) ∧ removeYoungest p es = older ++ younger := by
  obtain ⟨e, he, hw, hp⟩ := h
  obtain ⟨a, l₁, l₂, hnot, ha, hes, herase⟩ :=
    List.exists_of_eraseP (p := fun e => e.waits && e.priority == p) (l := es.reverse) (List.mem_reverse.mpr he) (by simp [hw, hp])
  have ha : a.waits = true ∧ a.priority = p := by simpa using ha
  refine ⟨l₂.reverse, a, l₁.reverse, ?_, ha.1, ha.2, ?_, ?_⟩
  · rw [← List.reverse_reverse es, hes]; simp
  · intro x hx hxw hxp
    exact hnot x (List.mem_reverse.mp hx) (by simp [hxw, hxp])
  · rw [removeYoungest, herase]; simp

/-- No waiting entry has a larger number than the largest (R142). -/
theorem le_worstWaiting {es : List Entry} {e : Entry} (he : e ∈ es) (hw : e.waits = true) : e.priority ≤ worstWaiting es := by
  have key : ∀ (l : List Entry) (m : Nat), m ≤ l.foldl (fun m e => max m e.priority) m ∧
      ∀ x ∈ l, x.priority ≤ l.foldl (fun m e => max m e.priority) m := by
    intro l
    induction l with
    | nil => simp
    | cons a l ih =>
      intro m
      obtain ⟨hm, hl⟩ := ih (max m a.priority)
      refine ⟨le_trans (le_max_left _ _) hm, fun x hx => ?_⟩
      rcases List.mem_cons.mp hx with rfl | hx
      · exact le_trans (le_max_right _ _) hm
      · exact hl x hx
  exact (key _ 0).2 e (List.mem_filter.mpr ⟨he, hw⟩)

/-- A number below the largest is below a waiting entry's. -/
theorem lt_worstWaiting_iff {es : List Entry} {p : Nat} :
    p < worstWaiting es ↔ ∃ e ∈ es, e.waits = true ∧ p < e.priority := by
  constructor
  · intro h
    obtain ⟨e, he, hw, hp⟩ := worstWaiting_mem (es := es) (by omega)
    exact ⟨e, he, hw, by omega⟩
  · rintro ⟨e, he, hw, hp⟩
    exact lt_of_lt_of_le hp (le_worstWaiting he hw)

/-! ## What a store shows (R137) -/

@[simp] theorem NoticeStore.shown_withEntries (st : NoticeStore) (es : List Entry) :
    (st.withEntries es).shown = es.map (fun e => (e.notice, e.priority)) := rfl

/-- A choice marks an entry and moves none. -/
@[simp] theorem NoticeStore.shown_choose (st : NoticeStore) : st.choose.shown = st.shown := by
  rcases st.choose_cases with ⟨r, _, h⟩ | ⟨_, e, _, h⟩ | ⟨_, _, h⟩ <;> rw [h]
  · rfl
  · exact markSending_notices _ _
  · rfl

/-- A notice that enters stands last (R141). -/
@[simp] theorem NoticeStore.shown_enter (st : NoticeStore) (n : Notice) (p : Nat) : (st.enter n p).shown = st.shown ++ [(n, p)] := by
  rcases st.enter_cases n p with ⟨_, _, h⟩ | ⟨_, h⟩ <;> rw [h]
  · rw [NoticeStore.shown_choose]; simp [NoticeStore.shown]
  · simp [NoticeStore.shown]

theorem NoticeStore.length_shown (st : NoticeStore) : st.shown.length = st.entries.length := List.length_map _

/-! ## What entering leaves alone -/

/-- A transmitter that is busy, or has a reply to send, goes on when a notice enters (R141). -/
theorem NoticeStore.enter_of_busy {st : NoticeStore} (h : ¬(st.transmitter = .idle ∧ st.reply = .empty)) (n : Notice) (p : Nat) :
    st.enter n p = st.withEntries (st.entries ++ [⟨n, p, .waiting⟩]) := by
  rcases st.enter_cases n p with ⟨hi, hr, _⟩ | ⟨_, h'⟩
  · exact absurd ⟨hi, hr⟩ h
  · exact h'

/-- A notice that enters keeps every SENDING entry. -/
theorem NoticeStore.mem_enter_of_sending {st : NoticeStore} {e : Entry} (he : e ∈ st.entries) (hw : e.waits = false)
    (n : Notice) (p : Nat) : e ∈ (st.enter n p).entries := by
  have hmem : e ∈ st.entries ++ [⟨n, p, .waiting⟩] := List.mem_append_left _ he
  rcases st.enter_cases n p with ⟨_, _, h⟩ | ⟨_, h⟩ <;> rw [h]
  · rcases (st.withEntries (st.entries ++ [⟨n, p, .waiting⟩])).choose_cases with ⟨r, _, h⟩ | ⟨_, f, hn, h⟩ | ⟨_, _, h⟩ <;> rw [h]
    · exact hmem
    · obtain ⟨older, younger, hes, hfw, _, _, hmark⟩ := nextWaiting_split hn
      rw [hmark]
      rw [← NoticeStore.withEntries_entries st (st.entries ++ _), hes] at hmem
      have hne : e ≠ f := fun h => by simp [← h, hw] at hfw
      simp only [List.mem_append, List.mem_cons, hne, false_or] at hmem ⊢
      tauto
    · exact hmem
  · exact hmem

/-- The entries that a new notice does not replace include every SENDING one (R139). -/
theorem Notice.replaces_of_sending {n : Notice} {e : Entry} (hw : e.waits = false) : n.replaces e = false := by
  unfold Notice.replaces
  split <;> simp [hw]

/-- A SENDING entry outlives the entry of a notice: it is neither replaced nor displaced (R139, R142). -/
theorem NoticeStore.mem_take_of_sending {st : NoticeStore} {e : Entry} (he : e ∈ st.entries) (hw : e.waits = false)
    (n : Notice) (p : Nat) : e ∈ (st.take n p).1.entries := by
  have hkept : e ∈ st.entries.filter (fun e => !n.replaces e) :=
    List.mem_filter.mpr ⟨he, by simp [Notice.replaces_of_sending hw]⟩
  rcases st.take_cases n p with ⟨_, h⟩ | ⟨_, hlt, h⟩ | ⟨_, _, h⟩ <;> rw [h]
  · exact NoticeStore.mem_enter_of_sending hkept hw n p
  · refine NoticeStore.mem_enter_of_sending ?_ hw n p
    obtain ⟨older, f, younger, hes, hfw, _, _, hrem⟩ := removeYoungest_split (worstWaiting_mem (Nat.zero_lt_of_lt hlt))
    rw [hes] at hkept
    have hne : e ≠ f := fun h => by simp [← h, hw] at hfw
    simp only [NoticeStore.withEntries_entries, hrem, List.mem_append, List.mem_cons, hne, false_or] at hkept ⊢
    exact hkept
  · exact hkept

/-- ATTN follows the entries after a notice was queued (R147). -/
theorem NoticeStore.take_attn (st : NoticeStore) (n : Notice) (p : Nat) :
    (st.take n p).1.attn = !(st.take n p).1.entries.isEmpty := by
  have hfull : ∀ u : NoticeStore, (u.enter n p).attn = !(u.enter n p).entries.isEmpty := fun u => by
    have := u.enter_entries_length n p
    cases hu : (u.enter n p).entries <;> simp_all
  rcases st.take_cases n p with ⟨_, h⟩ | ⟨_, _, h⟩ | ⟨_, _, h⟩ <;> rw [h]
  · exact hfull _
  · exact hfull _
  · rfl

/-- An idle transmitter with no reply to send sends a notice that enters the empty store at once (R141). -/
theorem NoticeStore.enter_empty {st : NoticeStore} (hi : st.transmitter = .idle) (hr : st.reply = .empty)
    (he : st.entries = []) (n : Notice) (p : Nat) :
    st.enter n p = { st with entries := [⟨n, p, .sending⟩], transmitter := .sendingNotice, txd := n.frame, attn := true } := by
  simp [NoticeStore.enter, NoticeStore.chooseIfIdle, hi, hr, he, NoticeStore.choose, NoticeStore.withEntries, nextWaiting,
    markSending, Entry.waits]

end Sys2Proof.Machine

/-! PROOF. Raising a condition, queuing a notice, and the message boundary (R128 to R130, R139 to R146). -/

namespace Sys2Proof.Machine

/-! ## Condition sets (R125) -/

theorem Condition.index_inj {c d : Condition} : c.index = d.index ↔ c = d := by
  cases c <;> cases d <;> decide

/-- Adding a condition to a set adds that condition and no other. -/
theorem condIn_condAdd (c d : Condition) (cs : CondSet) : condIn d (condAdd c cs) = (condIn d cs || d == c) := by
  have hbit : (1#7 <<< c.index).getLsbD d.index = (d == c) := by cases c <;> cases d <;> decide
  simp [condIn, condAdd, hbit]

/-! ## A loss (R130, R142) -/

/-- A store that has lost a notice is full. -/
theorem NoticeStore.take_lost_full {st : NoticeStore} {n : Notice} {p : Nat} (h : (st.take n p).2 = true) :
    8 ≤ (st.take n p).1.entries.length := by
  rcases st.take_cases n p with ⟨_, ht⟩ | ⟨hfull, hlt, ht⟩ | ⟨hfull, _, ht⟩ <;> rw [ht] at h ⊢
  · simp at h
  · have hlen := removeYoungest_length (worstWaiting_mem (Nat.zero_lt_of_lt hlt))
    simp only [NoticeStore.enter_entries_length, NoticeStore.withEntries_entries]
    omega
  · exact hfull

/-- In a full store the raise of NOTICE_LOST marks the condition alone (R130). -/
theorem State.raiseNoticeLost_full {s : State} (h : 8 ≤ s.store.entries.length)
    (hc : condIn .noticeLost s.conds.set = false) :
    s.raiseNoticeLost = { s with conds := { s.conds with set := condAdd .noticeLost s.conds.set } } := by
  have hfull : ¬s.store.entries.length < Config.notices := Nat.not_lt.mpr h
  unfold State.raiseNoticeLost
  rw [if_neg (by simp [hc]), if_neg hfull, ite_self]

theorem State.raiseNoticeLost_set {s : State} (h : condIn .noticeLost s.conds.set = true) : s.raiseNoticeLost = s := if_pos h

/-- What queuing a notice does: the store takes it, and a loss sets NOTICE_LOST (R141, R142). -/
theorem State.queueNotice_spec (s : State) (n : Notice) (p : Nat) : ∃ set : CondSet,
    (∀ d, condIn d set = (condIn d s.conds.set || (d == .noticeLost && (s.store.take n p).2))) ∧
    s.queueNotice n p = { s with store := (s.store.take n p).1, conds := { s.conds with set := set } } := by
  unfold State.queueNotice
  cases hlost : (s.store.take n p).2 with
  | false => exact ⟨s.conds.set, by simp, rfl⟩
  | true =>
    rw [if_pos rfl]
    cases hc : condIn .noticeLost s.conds.set with
    | true =>
      refine ⟨s.conds.set, fun d => ?_, State.raiseNoticeLost_set hc⟩
      by_cases hd : d = .noticeLost <;> simp [hd, hc]
    | false =>
      refine ⟨condAdd .noticeLost s.conds.set, fun d => by simp [condIn_condAdd], ?_⟩
      exact State.raiseNoticeLost_full (s := { s with store := (s.store.take n p).1 }) (NoticeStore.take_lost_full hlost) hc

@[simp] theorem State.queueNotice_store (s : State) (n : Notice) (p : Nat) :
    (s.queueNotice n p).store = (s.store.take n p).1 := by
  obtain ⟨set, _, h⟩ := s.queueNotice_spec n p
  rw [h]

@[simp] theorem State.queueNotice_mask (s : State) (n : Notice) (p : Nat) :
    (s.queueNotice n p).conds.mask = s.conds.mask := by
  obtain ⟨set, _, h⟩ := s.queueNotice_spec n p
  rw [h]

/-! ## A store with room (R141) -/

/-- A notice that replaces none enters a store with room, whole. -/
theorem NoticeStore.take_room {st : NoticeStore} {n : Notice} (h : st.entries.length < 8) (p : Nat) :
    (st.take n p).2 = false ∧
      (st.take n p).1 = (st.withEntries (st.entries.filter (fun e => !n.replaces e))).enter n p := by
  have hf : (st.entries.filter (fun e => !n.replaces e)).length ≤ st.entries.length := List.length_filter_le _ _
  rcases st.take_cases n p with ⟨_, h⟩ | ⟨hfull, _, _⟩ | ⟨hfull, _, _⟩
  · rw [h]; exact ⟨rfl, rfl⟩
  · omega
  · omega

/-- Queuing into a store with room leaves the conditions (R141). -/
theorem State.queueNotice_room {s : State} (h : s.store.entries.length < 8) (n : Notice) (p : Nat) :
    s.queueNotice n p = { s with store := (s.store.take n p).1 } := by
  unfold State.queueNotice
  rw [(NoticeStore.take_room h p).1]
  rfl

/-- Only a READING notice replaces another (R139). -/
def Notice.isReading : Notice → Bool
  | .reading .. => true
  | _ => false

theorem Notice.replaces_of_not_reading {n : Notice} (h : n.isReading = false) (e : Entry) : n.replaces e = false := by
  unfold Notice.replaces
  split
  · simp [Notice.isReading] at h
  · rfl

/-- A notice that is no READING notice takes its place behind all the others, in a store with room. -/
theorem NoticeStore.take_shown_room {st : NoticeStore} {n : Notice} (hn : n.isReading = false) (h : st.entries.length < 8)
    (p : Nat) : (st.take n p).1.shown = st.shown ++ [(n, p)] := by
  rw [(NoticeStore.take_room h p).2, NoticeStore.shown_enter]
  simp [Notice.replaces_of_not_reading hn, NoticeStore.shown]

/-! ## Raising a condition (R128 to R130) -/

/-- A clear, unmasked condition is set and its CONDITION notice queued; the condition of the store's own loss apart, the full
store takes it by its rule (R128). -/
theorem State.raise_unmasked {s : State} {c : Condition} (hc : condIn c s.conds.set = false)
    (hm : condIn c s.conds.mask = false) :
    s.raise c =
      State.queueNotice { s with conds := { s.conds with set := condAdd c s.conds.set } } (.condition c s.seq.frameNumber) 4 := by
  unfold State.raise
  rw [if_neg (by simp [hc])]
  exact if_neg (by simp [hm])

theorem State.raise_masked {s : State} {c : Condition} (hc : condIn c s.conds.set = false) (hm : condIn c s.conds.mask = true) :
    s.raise c = { s with conds := { s.conds with set := condAdd c s.conds.set } } := by
  unfold State.raise
  rw [if_neg (by simp [hc])]
  exact if_pos hm

theorem State.raise_set {s : State} {c : Condition} (hc : condIn c s.conds.set = true) : s.raise c = s := if_pos hc

/-- What a raise leaves in the condition set: the condition, those that were set, and perhaps NOTICE_LOST; the mask stands. -/
theorem State.raise_conds (s : State) (c : Condition) :
    (s.raise c).conds.mask = s.conds.mask ∧ ∃ lost : Bool,
      ∀ d, condIn d (s.raise c).conds.set = (condIn d s.conds.set || d == c || (d == .noticeLost && lost)) := by
  cases hc : condIn c s.conds.set with
  | true =>
    rw [State.raise_set hc]
    refine ⟨rfl, false, fun d => ?_⟩
    by_cases hd : d = c <;> simp [hd, hc]
  | false =>
    cases hm : condIn c s.conds.mask with
    | true => rw [State.raise_masked hc hm]; exact ⟨rfl, false, fun d => by simp [condIn_condAdd]⟩
    | false =>
      rw [State.raise_unmasked hc hm]
      obtain ⟨set, hset, h⟩ := State.queueNotice_spec
        { s with conds := { s.conds with set := condAdd c s.conds.set } } (.condition c s.seq.frameNumber) 4
      rw [h]
      exact ⟨rfl, _, fun d => by rw [hset, condIn_condAdd]⟩

@[simp] theorem State.raise_mask (s : State) (c : Condition) : (s.raise c).conds.mask = s.conds.mask := (s.raise_conds c).1

/-- A raise queues the CONDITION notice or leaves the store. -/
theorem State.raise_store_cases (s : State) (c : Condition) :
    (s.raise c).store = s.store ∨ (s.raise c).store = (s.store.take (.condition c s.seq.frameNumber) 4).1 := by
  cases hc : condIn c s.conds.set with
  | true => exact .inl (by rw [State.raise_set hc])
  | false =>
    cases hm : condIn c s.conds.mask with
    | true => exact .inl (by rw [State.raise_masked hc hm])
    | false => exact .inr (by rw [State.raise_unmasked hc hm, State.queueNotice_store])

@[simp] theorem State.raise_reply (s : State) (c : Condition) : (s.raise c).store.reply = s.store.reply := by
  rcases s.raise_store_cases c with h | h <;> rw [h]
  exact NoticeStore.take_reply _ _ _

@[simp] theorem State.raise_readings (s : State) (c : Condition) : (s.raise c).store.readings = s.store.readings := by
  rcases s.raise_store_cases c with h | h <;> rw [h]
  exact NoticeStore.take_readings _ _ _

/-- With room in the store a raise shows its CONDITION notice where one is due, and touches no other condition (R128, R129). -/
theorem State.raise_room {s : State} (c : Condition) (h : s.store.entries.length < 8) :
    (s.raise c).store.shown = s.store.shown ++ s.conditionNotice c ∧
      (s.raise c).conds = { s.conds with set := (s.raise c).conds.set } ∧
      ∀ d, condIn d (s.raise c).conds.set = (condIn d s.conds.set || d == c) := by
  cases hc : condIn c s.conds.set with
  | true =>
    rw [State.raise_set hc]
    refine ⟨by simp [State.conditionNotice, hc], rfl, fun d => ?_⟩
    by_cases hd : d = c <;> simp [hd, hc]
  | false =>
    cases hm : condIn c s.conds.mask with
    | true =>
      rw [State.raise_masked hc hm]
      exact ⟨by simp [State.conditionNotice, hm], rfl, fun d => by simp [condIn_condAdd]⟩
    | false =>
      rw [State.raise_unmasked hc hm, State.queueNotice_room (by exact h)]
      refine ⟨?_, rfl, fun d => by simp [condIn_condAdd]⟩
      rw [NoticeStore.take_shown_room rfl h]
      simp [State.conditionNotice, hc, hm]

/-- The store's own raise of NOTICE_LOST into a free entry (R130). -/
theorem State.raiseNoticeLost_room {s : State} (hc : condIn .noticeLost s.conds.set = false)
    (hm : condIn .noticeLost s.conds.mask = false) (h : s.store.entries.length < 8) :
    s.raiseNoticeLost = { s with conds := { s.conds with set := condAdd .noticeLost s.conds.set }
                                 store := s.store.enter (.condition .noticeLost s.seq.frameNumber) 4 } := by
  unfold State.raiseNoticeLost
  rw [if_neg (by simp [hc]), if_neg (by simp [hm]), if_pos (by exact h)]

theorem State.raiseNoticeLost_masked {s : State} (hc : condIn .noticeLost s.conds.set = false)
    (hm : condIn .noticeLost s.conds.mask = true) :
    s.raiseNoticeLost = { s with conds := { s.conds with set := condAdd .noticeLost s.conds.set } } := by
  unfold State.raiseNoticeLost
  rw [if_neg (by simp [hc]), if_pos hm]

/-- Settles O9: each clause is the raise's equation for the condition's state and the mask. -/
theorem raiseFollowsStateAndMask : Obligations.RaiseFollowsStateAndMask := by
  unfold Obligations.RaiseFollowsStateAndMask
  intro s c
  obtain ⟨hmask, lost, hset⟩ := s.raise_conds c
  refine ⟨State.raise_set, State.raise_masked, fun hc hm hroom => ?room, fun _ => State.raise_unmasked, by simp [hset], hmask,
    fun d hd => by simp [hset, hd], fun d hd => ?only, State.raiseNoticeLost_set, fun hc => ⟨?lostSet, ?lostQuiet, ?lostRoom⟩⟩
  case room =>
    refine ⟨_, (State.raise_unmasked hc hm).trans (State.queueNotice_room (by exact hroom) _ _), ?_⟩
    exact NoticeStore.take_shown_room rfl hroom 4
  case only =>
    rw [hset] at hd
    simp only [Bool.or_eq_true, Bool.and_eq_true, beq_iff_eq] at hd
    tauto
  case lostSet => simp [condIn_condAdd]
  case lostQuiet =>
    rintro (hm | hfull)
    · exact State.raiseNoticeLost_masked hc hm
    · exact State.raiseNoticeLost_full hfull hc
  case lostRoom =>
    intro hm hroom
    exact ⟨_, State.raiseNoticeLost_room hc hm hroom, NoticeStore.shown_enter _ _ _⟩

/-! ## Entry, displacement and loss (R139, R141, R142) -/

section
variable {st : NoticeStore} {n : Notice} {p : Nat}

/-- A full store whose waiting entries are all at least as urgent drops the notice (R142). -/
theorem NoticeStore.take_drops (hfull : 8 ≤ (st.entries.filter (fun e => !n.replaces e)).length)
    (h : ∀ e ∈ st.entries.filter (fun e => !n.replaces e), e.waits = true → e.priority ≤ p) :
    st.take n p = (st.withEntries (st.entries.filter (fun e => !n.replaces e)), true) := by
  rcases st.take_cases n p with ⟨hlt, _⟩ | ⟨_, hlt, _⟩ | ⟨_, _, ht⟩
  · omega
  · obtain ⟨e, he, hw, hp⟩ := lt_worstWaiting_iff.mp hlt
    exact absurd (h e he hw) (by omega)
  · exact ht

/-- A full store with a less urgent waiting entry displaces the least urgent, the youngest of them (R142). -/
theorem NoticeStore.take_displaces (hfull : 8 ≤ (st.entries.filter (fun e => !n.replaces e)).length)
    (h : ∃ e ∈ st.entries.filter (fun e => !n.replaces e), e.waits = true ∧ p < e.priority) :
    ∃ older e younger, st.entries.filter (fun e => !n.replaces e) = older ++ e :: younger ∧ e.waits = true ∧ p < e.priority ∧
      (∀ x ∈ st.entries.filter (fun e => !n.replaces e), x.waits = true → x.priority ≤ e.priority) ∧
      (∀ x ∈ younger, x.waits = true → x.priority < e.priority) ∧
      st.take n p = ((st.withEntries (older ++ younger)).enter n p, true) := by
  have hlt := lt_worstWaiting_iff.mpr h
  obtain ⟨older, e, younger, hes, hw, hpe, hyoung, hrem⟩ := removeYoungest_split (worstWaiting_mem (Nat.zero_lt_of_lt hlt))
  refine ⟨older, e, younger, hes, hw, by omega, fun x hx hxw => hpe ▸ le_worstWaiting hx hxw, fun x hx hxw => ?_, ?_⟩
  · have hle := le_worstWaiting (es := st.entries.filter (fun e => !n.replaces e)) (e := x)
      (by rw [hes]; exact List.mem_append_right _ (List.mem_cons_of_mem _ hx)) hxw
    have hne := hyoung x hx hxw
    omega
  · rcases st.take_cases n p with ⟨hroom, _⟩ | ⟨_, _, ht⟩ | ⟨_, hle, _⟩
    · omega
    · rw [ht, hrem]
    · omega

/-- A busy transmitter goes on, and the store then holds old entries and perhaps the notice (R141). -/
theorem NoticeStore.take_busy (h : ¬(st.transmitter = .idle ∧ st.reply = .empty)) :
    (st.take n p).1.transmitter = st.transmitter ∧ (st.take n p).1.txd = st.txd ∧
      ∀ e ∈ (st.take n p).1.entries, e ∈ st.entries ∨ e = ⟨n, p, .waiting⟩ := by
  have enters : ∀ es : List Entry, (∀ e ∈ es, e ∈ st.entries) →
      ((st.withEntries es).enter n p).transmitter = st.transmitter ∧ ((st.withEntries es).enter n p).txd = st.txd ∧
        ∀ e ∈ ((st.withEntries es).enter n p).entries, e ∈ st.entries ∨ e = ⟨n, p, .waiting⟩ := by
    intro es hes
    rw [NoticeStore.enter_of_busy (by exact h)]
    refine ⟨rfl, rfl, fun e he => ?_⟩
    rcases List.mem_append.mp he with he | he
    · exact .inl (hes e he)
    · exact .inr (List.mem_singleton.mp he)
  have hfilter : ∀ e ∈ st.entries.filter (fun e => !n.replaces e), e ∈ st.entries := fun e he => (List.mem_filter.mp he).1
  rcases st.take_cases n p with ⟨_, ht⟩ | ⟨_, _, ht⟩ | ⟨_, _, ht⟩ <;> rw [ht]
  · exact enters _ hfilter
  · exact enters _ fun e he => hfilter e ((removeYoungest_sublist _ _).subset he)
  · exact ⟨rfl, rfl, fun e he => .inl (hfilter e he)⟩

end

/-- Settles O10: the clauses on a state are `State.queueNotice_spec`; those on a store follow the three cases of an entry. -/
theorem noticeEntersDisplacesOrDrops : Obligations.NoticeEntersDisplacesOrDrops := by
  unfold Obligations.NoticeEntersDisplacesOrDrops
  refine ⟨State.queueNotice_spec, fun st n p => ?_⟩
  intro shown es
  refine ⟨fun hroom => ?room, fun hfull hall => ?drops, fun hfull hsome => ?displaces, fun e he hw => ?stays,
    NoticeStore.take_reply _ _ _, NoticeStore.take_readings _ _ _, NoticeStore.take_attn _ _ _, NoticeStore.take_busy,
    fun hi hr hes => ?sent⟩
  case room =>
    rcases st.take_cases n p with ⟨_, ht⟩ | ⟨hfull, _, _⟩ | ⟨hfull, _, _⟩
    · rw [ht]
      exact ⟨rfl, NoticeStore.shown_enter _ _ _⟩
    · exact absurd hroom (Nat.not_lt.mpr hfull)
    · exact absurd hroom (Nat.not_lt.mpr hfull)
  case drops =>
    rw [NoticeStore.take_drops hfull hall]
    exact ⟨rfl, rfl⟩
  case displaces =>
    obtain ⟨older, e, younger, hsplit, hw, hp, hmax, hyoung, ht⟩ := NoticeStore.take_displaces hfull hsome
    rw [ht]
    exact ⟨rfl, older, e, younger, hsplit, hw, hp, hmax, hyoung, NoticeStore.shown_enter _ _ _⟩
  case stays =>
    refine ⟨NoticeStore.mem_take_of_sending he hw n p, fun f => ?_⟩
    rw [NoticeStore.withdraw_entries]
    exact List.mem_filter.mpr ⟨he, by simp [hw]⟩
  case sent =>
    rcases st.take_cases n p with ⟨_, ht⟩ | ⟨hfull, _, _⟩ | ⟨hfull, _, _⟩
    · rw [ht, NoticeStore.enter_empty (st := st.withEntries es) hi hr hes]
      exact ⟨rfl, rfl, rfl⟩
    · simp [show st.entries.filter (fun e => !n.replaces e) = [] from hes] at hfull
    · simp [show st.entries.filter (fun e => !n.replaces e) = [] from hes] at hfull

/-! ## The message boundary (R144 to R146) -/

/-- The entries that stand when the last byte of a message has left: the place of a notice sent is freed (R146). -/
def NoticeStore.leftAtBoundary (st : NoticeStore) : List Entry :=
  if st.transmitter = .sendingReply then st.entries else st.entries.filter Entry.waits

/-- A boundary frees the reply buffer or the notice's place and then makes a choice (R144 to R146). -/
theorem NoticeStore.boundary_eq {st : NoticeStore} (h : st.transmitter ≠ .idle) : ∃ freed : NoticeStore,
    st.boundary = freed.choose ∧ freed.entries = st.leftAtBoundary ∧ freed.readings = st.readings ∧
      freed.reply = if st.transmitter = .sendingReply then .empty else st.reply := by
  unfold NoticeStore.boundary NoticeStore.leftAtBoundary
  cases ht : st.transmitter with
  | idle => exact absurd ht h
  | sendingReply => exact ⟨_, rfl, rfl, rfl, rfl⟩
  | sendingNotice => exact ⟨_, rfl, rfl, rfl, rfl⟩

/-- Settles O11: the choice after the place is freed has three cases, and the second is split at the entry chosen. -/
theorem boundarySendsMostUrgent : Obligations.BoundarySendsMostUrgent := by
  unfold Obligations.BoundarySendsMostUrgent
  intro s hnorestart
  have hexec : exec .messageBoundary s = .next { s with store := s.store.boundary } := by
    change Host.Outcome.next (if s.sendsRestart = true then s.warmRestart else { s with store := s.store.boundary }) = _
    rw [if_neg (by simp [hnorestart])]
  refine ⟨fun hidle => ?_, fun hbusy => ?_⟩
  · have hsame : s.store.boundary = s.store := by simp [NoticeStore.boundary, hidle]
    rw [hexec, hsame]
  · intro left
    refine ⟨s.store.boundary, hexec, ?_⟩
    obtain ⟨freed, hchoose, hentries, hreadings, hreply⟩ := NoticeStore.boundary_eq hbusy
    have hleft : freed.entries = left := hentries
    rw [hchoose, NoticeStore.choose_reply]
    refine ⟨by simp [hreadings], hreply, ?_⟩
    rcases freed.choose_cases with ⟨r, hr, hc⟩ | ⟨hno, e, hn, hc⟩ | ⟨hno, hn, hc⟩ <;> rw [hc]
    · refine ⟨fun r' hr' => ?_, fun h => absurd hr (h r), fun h => absurd hr (h r)⟩
      obtain rfl : r = r' := by simpa [hr] using hr'
      exact ⟨rfl, rfl, hleft⟩
    · refine ⟨fun r hr => absurd hr (hno r), fun _ hall => ?_, fun _ _ => ?_⟩
      · obtain ⟨he, hw⟩ := nextWaiting_mem hn
        exact absurd hw (by simp [hall e (hleft ▸ he)])
      · obtain ⟨older, younger, hes, hw, hold, hyoung, hmark⟩ := nextWaiting_split hn
        exact ⟨older, e, younger, hleft ▸ hes, hw, hold, hyoung, hmark, rfl, rfl⟩
    · refine ⟨fun r hr => absurd hr (hno r), fun _ _ => ⟨rfl, rfl, hleft⟩, fun _ ⟨e, he, hw⟩ => ?_⟩
      exact absurd hw (by simp [nextWaiting_eq_none.mp hn e (hleft.symm ▸ he)])

end Sys2Proof.Machine

/-! PROOF. What an event can do: the part's operations, one constructor each with the guard under which it is made, and the
events as sequences of them. Every invariant is then a case per operation. -/

namespace Sys2Proof.Machine

open Relation (ReflTransGen)

/-! ## The operations -/

/-- A change to the alarm sub-records or to their notices, after which LAMP is judged (R106 to R117). -/
inductive State.AlarmMove : State → State → Prop
  | notice (s : State) (n : Notice) (p : Nat) (fits : Entry.priorityFits ⟨n, p, .waiting⟩ = true) :
      State.AlarmMove s (s.queueNotice n p)
  | withdraw (s : State) (f : Notice → Bool) : State.AlarmMove s (s.withdraw f)
  | setAlarm (s : State) (p : Nat) (k : Kind) (a : SubRecord) (bound : (s.pos p).state.bound = true)
      (below : countBelow k (s.kinds.get k) ((s.pos p).alarms.get k) = true → countBelow k (s.kinds.get k) a = true)
      (quiet : s.modes.mode = .config → a = { (s.pos p).alarms.get k with pending := false }) :
      State.AlarmMove s (s.setAlarm p k a)
  | missing (s : State) (p : Nat) (heard : (s.pos p).state = .active ∨ (s.pos p).state = .assigned)
      (runs : s.modes.mode ≠ .config) :
      State.AlarmMove s (s.setPos p { s.pos p with state := .missing, stateEntry := s.seq.frameNumber })

/-- A frame that has started under the mode in effect, its beacon built and handed over, its offers not yet counted (R20, R24,
R25). -/
def State.begun (s : State) : State :=
  let now : State :=
    { s with joinWork := .due
             seq := { s.seq with frameNumber := s.seq.frameNumber + 1#32
                                 timer := .running (effectivePeriod s.modes.mode s.seq.period) } }
  { now with
    join := { s.join with reoffers := [] }
    seq := { now.seq with beacon := some now.buildBeacon, txKey := s.modes.mode != .test
                          txData := if s.modes.mode = .test then [] else now.buildBeacon.bytes } }

/-- One operation on the records, the lists, the queue, the engine and the notices, which leaves every setting, the frame, the
port and the mode. -/
inductive State.RecordMove : State → State → Prop
  | notice (s : State) (n : Notice) (p : Nat) (fits : Entry.priorityFits ⟨n, p, .waiting⟩ = true) :
      State.RecordMove s (s.queueNotice n p)
  | raise (s : State) (c : Condition) : State.RecordMove s (s.raise c)
  | alarms (s t : State) (moves : ReflTransGen State.AlarmMove s t) : State.RecordMove s t.judgeLamp
  | vacate (s : State) (p : Nat) (fitted : (s.pos p).state ≠ .absent) : State.RecordMove s (s.enterEmpty p .vacant)
  | release (s : State) (p : Nat) (fitted : (s.pos p).state ≠ .absent) :
      State.RecordMove s ((s.enterEmpty p .vacant).returnCandidate (s.pos p).offer)
  | expireOffer (s : State) (p : Nat) (offered : (s.pos p).state = .offered) (runs : s.modes.mode ≠ .config) :
      State.RecordMove s (s.expireOffer p)
  | learn (s : State) (p : Nat) (vacant : (s.pos p).state = .vacant) (none : s.learningPosition = none)
      (room : s.pendingFull = false) (runs : s.modes.mode ≠ .config) :
      State.RecordMove s (s.setPos p
        { s.pos p with state := .learning, stateEntry := s.seq.frameNumber, learn := some Config.learnFrames })
  | offer (s : State) (p : Nat) (c : Candidate) (listed : findCandidate c.id s.join.candidates = some c)
      (free : (s.pos p).state = .learning ∨ ((s.pos p).state = .vacant ∧ s.pendingFull = false))
      (runs : s.modes.mode ≠ .config) : State.RecordMove s (s.offerTo p c)
  | reoffer (s : State) (id : SensorId) (runs : s.modes.mode ≠ .config) : State.RecordMove s (s.reoffer id)
  | refresh (s : State) (e : QueueEntry) (runs : s.modes.mode ≠ .config) :
      State.RecordMove s (s.setCandidates (s.join.candidates.map (fun c => if c.id = e.telegram.id then c.refresh e else c)))
  | newCandidate (s : State) (c : Candidate) (new : findCandidate c.id s.join.candidates = none)
      (free : ∀ f : PosState → Bool, f = PosState.bound ∨ f = (· == .offered) → s.idHeld f c.id = false)
      (room : s.join.candidates.length < Config.candidates) (runs : s.modes.mode ≠ .config) :
      State.RecordMove s (s.setCandidates (s.join.candidates ++ [c]))
  | ageOut (s : State) : State.RecordMove s s.ageOut
  | countOffer (s : State) (o : OfferEntry) : State.RecordMove s (s.countOffer o)
  | countLearns (s : State) (none : ∀ p < 32, learnOver (s.pos p) = false) :
      State.RecordMove s { s with positions := s.positions.map Position.countLearn }
  | reenter (s : State) : State.RecordMove s s.reenterAssigned
  | accept (s : State) (t : Telegram) (slot : Nat) (ch : Channel) (ok : s.judgeArrival t slot = .accepted)
      (runs : s.modes.mode ≠ .config) : State.RecordMove s (s.accept t slot ch)
  | runEngine (s : State) : State.RecordMove s s.runEngine
  | write (s : State) (w : InFlight) (c : Capture) (busy : s.engine = .busy w) (report : w.capture = some c) :
      State.RecordMove s (s.writeRecord w.entry (handedResults w c s.modes.mode))
  | finish (s : State) : State.RecordMove s s.finish

/-- One operation of the part on everything but the reply buffer and the choice at a boundary. -/
inductive State.Does : State → State → Prop
  | records (s t : State) (move : s.RecordMove t) : State.Does s t
  | joinWork (s : State) (x : JoinWork) (runs : s.modes.mode ≠ .config) : State.Does s { s with joinWork := x }
  | beaconLeft (s : State) : State.Does s { s with seq := { s.seq with txKey := false, txData := [] } }
  | handOver (s : State) : State.Does s { s with link := s.link.handOver }
  | begin (s : State) (runs : s.modes.mode ≠ .config) : State.Does s s.begun
  | leaveConfig (s : State) (m : Mode) (runs : m ≠ .config) (high : s.resetLow = false) :
      State.Does s (s.emptyWindows.enterMode m).begun
  | changeMode (s : State) (m : Mode) (runs : m ≠ .config) (ran : s.modes.mode ≠ .config) :
      State.Does s ((s.emptyWindows.enterMode m).noticeMode m).begun
  | toConfig (s : State) (runs : s.modes.mode ≠ .config) : State.Does s s.changeToConfig
  | pendMode (s : State) (m : Mode) (runs : s.modes.mode ≠ .config) :
      State.Does s { s with modes := { s.modes with pending := some m } }
  | axle (s : State) (a : Nat) (entry : Axle) (ranged : entry.inRange = true) (first : 1 ≤ a) (last : a ≤ 8)
      (config : s.modes.mode = .config) : State.Does s (s.storeAxle a entry)
  | ambient (s : State) (a : Nat) (ranged : ambientInRange a = true) :
      State.Does s { s with config := { s.config with ambient := a } }
  | limits (s : State) (l : Limits) (ranged : l.inRange = true) : State.Does s { s with config := { s.config with limits := l } }
  | load (s : State) (l : LoadState) : State.Does s { s with modes := { s.modes with load := l } }
  | kind (s : State) (k : Kind) (x : KindSetting) (ranged : x.inRange k = true) (config : s.modes.mode = .config) :
      State.Does s { s with kinds := s.kinds.put k x }
  | filter (s : State) (i : Nat) (f : AcceptFilter) :
      State.Does s { s with join := { s.join with filters := s.join.filters.set i f } }
  | link (s : State) (period limit : Nat) (code : BitVec 16) (hperiod : 1 ≤ period ∧ period ≤ 16)
      (hlimit : silenceLimitInRange limit = true) (config : s.modes.mode = .config) :
      State.Does s { s with seq := { s.seq with period := period, silenceLimit := limit, vehicleCode := code } }
  | downlink (s : State) (v : DownlinkValue) (allowed : v ≠ .park) :
      State.Does s { s with seq := { s.seq with downlink := some v } }
  | mask (s : State) (m : CondSet) : State.Does s { s with conds := { s.conds with mask := m } }
  | clearConds (s : State) (m : CondSet) : State.Does s { s with conds := { s.conds with set := m } }
  | readings (s : State) (b : Bool) : State.Does s { s with store := { s.store with readings := b } }
  | hostLimit (s : State) (limit : Nat) (ranged : limit ≤ 60) :
      State.Does s { s with port := { s.port with silenceLimit := limit, silenceTimer := watchRuns s.modes.mode limit } }
  | goodFrame (s : State) : State.Does s s.goodFrame
  | assemble (s : State) (r : Receiver) (fits : s.port.receiver.fits = true → r.fits = true) : State.Does s (s.assemble r)
  | abandon (s : State) : State.Does s s.abandon
  | hostSilence (s : State) (running : s.port.silenceTimer = true) :
      State.Does s (State.judgeLamp { s with port := { s.port with silenceTimer := false, hostSilent := true } })

/-- Operations made one after the other. -/
abbrev State.Works : State → State → Prop := ReflTransGen State.Does

/-- What an event can do to the part: work, a command's work with its reply, a boundary, a restart, a reset or the release. -/
inductive State.Event : State → State → Prop
  | works (s t : State) (h : s.Works t) : State.Event s t
  | command (s t : State) (kind : Byte) (a : Answer) (ready : s.Ready) (h : s.taking.Works t) : State.Event s (t.reply kind a)
  | boundary (s : State) : State.Event s { s with store := s.store.boundary }
  | warmRestart (s : State) : State.Event s s.warmRestart
  | coldReset (s : State) : State.Event s { State.coldReset with pending := s.pending }
  | release (s : State) : State.Event s { s with resetLow := false, store := s.store.chooseIfIdle }

theorem State.Does.works {s t : State} (h : s.Does t) : s.Works t := .single h

theorem State.RecordMove.does {s t : State} (h : s.RecordMove t) : s.Does t := .records s t h

theorem State.RecordMove.works {s t : State} (h : s.RecordMove t) : s.Works t := h.does.works

theorem State.Works.of_eq {s t : State} (h : t = s) : s.Works t := h ▸ .refl

/-- A fold of operations, made under what every one of them keeps. -/
theorem foldl_trans {α β : Type} {R : β → β → Prop} (I : β → Prop) {f : β → α → β} {l : List α}
    (h : ∀ b, ∀ a ∈ l, I b → ReflTransGen R b (f b a) ∧ I (f b a)) :
    ∀ b, I b → ReflTransGen R b (l.foldl f b) ∧ I (l.foldl f b) := by
  induction l with
  | nil => exact fun b hb => ⟨.refl, hb⟩
  | cons a l ih =>
    intro b hb
    obtain ⟨hstep, hkeep⟩ := h b a List.mem_cons_self hb
    obtain ⟨hrest, hend⟩ := ih (fun b a ha => h b a (List.mem_cons_of_mem _ ha)) _ hkeep
    exact ⟨hstep.trans hrest, hend⟩

end Sys2Proof.Machine

/-! PROOF. The alarm unit's work as changes of single sub-records (R106 to R117). -/

namespace Sys2Proof.Machine

open Relation (ReflTransGen)

/-! ## Reading a replaced record -/

/-- Which record is read after one was replaced. -/
theorem State.setPos_pos (s : State) (p q : Nat) (r : Position) :
    (s.setPos p r).pos q = if q = p ∧ p < s.positions.length then r else s.pos q := by
  by_cases hp : p < s.positions.length
  · by_cases hq : q = p
    · rw [if_pos ⟨hq, hp⟩, hq, State.setPos_pos_self hp]
    · rw [if_neg (fun h => hq h.1), State.setPos_pos_of_ne (Ne.symm hq)]
  · rw [if_neg (fun h => hp h.2)]
    exact State.pos_congr (List.set_eq_of_length_le (Nat.not_lt.mp hp)) q

/-- A replaced sub-record leaves every record's state. -/
@[simp] theorem State.setAlarm_state (s : State) (p q : Nat) (k : Kind) (a : SubRecord) :
    ((s.setAlarm p k a).pos q).state = (s.pos q).state := by
  unfold State.setAlarm
  rw [State.setPos_pos]
  split
  case isTrue h => rw [h.1]
  case isFalse => rfl

@[simp] theorem State.queueNotice_pos (s : State) (n : Notice) (m p : Nat) : (s.queueNotice n m).pos p = s.pos p :=
  State.pos_congr (State.queueNotice_positions _ _ _) p

@[simp] theorem State.raise_pos (s : State) (c : Condition) (p : Nat) : (s.raise c).pos p = s.pos p :=
  State.pos_congr (State.raise_positions _ _) p

@[simp] theorem State.withdraw_pos (s : State) (f : Notice → Bool) (p : Nat) : (s.withdraw f).pos p = s.pos p := rfl

@[simp] theorem State.judgeLamp_pos (s : State) (p : Nat) : s.judgeLamp.pos p = s.pos p := rfl

/-! ## What a change to the alarms keeps -/

theorem State.AlarmMove.modes_eq {s t : State} (h : s.AlarmMove t) : t.modes = s.modes := by
  cases h <;> simp

/-- A bound position stays bound. -/
theorem State.AlarmMove.bound {s t : State} (h : s.AlarmMove t) {q : Nat} (hq : (s.pos q).state.bound = true) :
    (t.pos q).state.bound = true := by
  cases h with
  | notice => simpa using hq
  | withdraw => simpa using hq
  | setAlarm => simpa using hq
  | missing p =>
    rw [State.setPos_pos]
    split
    · rfl
    · exact hq

theorem State.AlarmMove.modes_eq_star {s t : State} (h : ReflTransGen State.AlarmMove s t) : t.modes = s.modes := by
  induction h with
  | refl => rfl
  | tail _ hstep ih => rw [hstep.modes_eq, ih]

theorem State.AlarmMove.bound_star {s t : State} (h : ReflTransGen State.AlarmMove s t) {q : Nat}
    (hq : (s.pos q).state.bound = true) : (t.pos q).state.bound = true := by
  induction h with
  | refl => exact hq
  | tail _ hstep ih => exact hstep.bound ih

/-! ## The confirm count (R105) -/

/-- A count of 0 is below the confirm count if any is. -/
theorem countBelow_zero {k : Kind} {x : KindSetting} {a : SubRecord} (h : countBelow k x a = true) (active pending : Bool) :
    countBelow k x ⟨active, pending, 0⟩ = true := by
  unfold countBelow at *
  cases hc : x.confirm with
  | none => rfl
  | some c =>
    by_cases hk : k = .missing
    · simp [hk]
    · have hlt : a.count < c := by simpa [hk, hc] using h
      simpa [hk] using Nat.zero_lt_of_lt hlt

/-- The test of a count reads the count alone. -/
theorem countBelow_congr {a b : SubRecord} (h : a.count = b.count) (k : Kind) (x : KindSetting) :
    countBelow k x a = countBelow k x b := by
  unfold countBelow
  rw [h]

/-- A count that has not reached the confirm count is below it when it is counted up. -/
theorem countBelow_succ {k : Kind} {x : KindSetting} {a : SubRecord} (h : countBelow k x a = true) {c : Nat}
    (hc : x.confirm = some c) (hk : k ≠ .missing) (hne : a.count + 1 ≠ c) :
    countBelow k x { a with count := a.count + 1 } = true := by
  unfold countBelow at *
  simp only [hc, hk, if_false, decide_eq_true_eq] at h ⊢
  omega

/-! ## Queuing an ALARM notice (R111, R115) -/

theorem alarmPriority_eq (cls : Fin 3) : alarmPriority cls = if cls = 0 then none else some (if cls = 2 then 0 else 2) := by
  revert cls
  decide

/-- An ALARM notice is queued for a kind of class 1 or 2, with the number of its class (R111, R115). -/
theorem State.queueAlarm_eq (s : State) (p : Nat) (k : Kind) (x : AlarmEvent) (f : FrameNo) :
    s.queueAlarm p k x f = if (s.kinds.get k).cls = 0 then s else
      s.queueNotice (.alarm p k x f (s.pos p).wheel.coldGauge (s.pos p).wheel.temperature)
        (if (s.kinds.get k).cls = 2 then 0 else 2) := by
  unfold State.queueAlarm
  rw [alarmPriority_eq]
  split_ifs <;> rfl

theorem State.queueAlarm_moves (s : State) (p : Nat) (k : Kind) (x : AlarmEvent) (f : FrameNo) :
    ReflTransGen State.AlarmMove s (s.queueAlarm p k x f) := by
  rw [State.queueAlarm_eq]
  split
  · exact .refl
  · exact .single (.notice s _ _ (by split <;> rfl))

/-! ## Raising and clearing (R111 to R114) -/

section
variable {s : State} {p : Nat} {k : Kind} {f : FrameNo}

theorem State.becomeActive_moves (hb : (s.pos p).state.bound = true) (hm : s.modes.mode ≠ .config) :
    ReflTransGen State.AlarmMove s (s.becomeActive p k f) :=
  .head (.setAlarm s p k _ hb (fun h => countBelow_zero h _ _) (fun h => absurd h hm)) (State.queueAlarm_moves _ _ _ _ _)

theorem State.raiseAgain_moves (hb : (s.pos p).state.bound = true) (hm : s.modes.mode ≠ .config) :
    ReflTransGen State.AlarmMove s (s.raiseAgain p k f) :=
  .head (.setAlarm s p k ⟨true, true, ((s.pos p).alarms.get k).count⟩ hb
    (fun h => (countBelow_congr rfl _ _).trans h) (fun h => absurd h hm)) (State.queueAlarm_moves _ _ _ _ _)

theorem State.becomeInactive_moves (hb : (s.pos p).state.bound = true) (hm : s.modes.mode ≠ .config) :
    ReflTransGen State.AlarmMove s (s.becomeInactive p k f) := by
  have hmoved : ReflTransGen State.AlarmMove s
      ((s.withdraw (Notice.raiseFor p k)).setAlarm p k ⟨false, ((s.pos p).alarms.get k).pending, 0⟩) :=
    .head (.withdraw s _) (.single (.setAlarm _ p k _ hb (fun h => countBelow_zero h _ _) (fun h => absurd h hm)))
  unfold State.becomeInactive
  dsimp only
  split
  · exact hmoved.trans (State.queueAlarm_moves _ _ _ _ _)
  · exact hmoved

theorem State.standing_moves (hb : (s.pos p).state.bound = true) (hm : s.modes.mode ≠ .config) :
    ReflTransGen State.AlarmMove s (s.standing p k f) := by
  have hkept : s.AlarmMove (s.setAlarm p k { (s.pos p).alarms.get k with count := 0 }) :=
    .setAlarm s p k _ hb (fun h => countBelow_zero h _ _) (fun h => absurd h hm)
  unfold State.standing
  dsimp only
  split
  · exact .head hkept (State.raiseAgain_moves (by simpa using hb) hm)
  · exact .single hkept

/-- The model's test of a completed confirm count (R107, R109). -/
theorem State.disagreeing_eq (s : State) (p : Nat) (k : Kind) (f : FrameNo) :
    s.disagreeing p k f =
      if k = .missing ∨ (s.kinds.get k).confirm = none ∨ (s.kinds.get k).confirm = some (((s.pos p).alarms.get k).count + 1) then
        if ((s.pos p).alarms.get k).active then s.becomeInactive p k f else s.becomeActive p k f
      else s.setAlarm p k { (s.pos p).alarms.get k with count := ((s.pos p).alarms.get k).count + 1 } := by
  unfold State.disagreeing
  dsimp only
  cases hc : (s.kinds.get k).confirm with
  | none => simp
  | some c =>
    by_cases hk : k = .missing
    · simp [hk]
    · simp [hk, eq_comm (a := c)]

theorem State.disagreeing_moves (hb : (s.pos p).state.bound = true) (hm : s.modes.mode ≠ .config) :
    ReflTransGen State.AlarmMove s (s.disagreeing p k f) := by
  rw [State.disagreeing_eq]
  split
  · split
    · exact State.becomeInactive_moves hb hm
    · exact State.becomeActive_moves hb hm
  · rename_i h
    push Not at h
    obtain ⟨hk, hsome, hne⟩ := h
    obtain ⟨c, hc⟩ := Option.ne_none_iff_exists'.mp hsome
    refine .single (.setAlarm s p k _ hb (fun h => countBelow_succ h hc hk ?_) (fun h => absurd h hm))
    exact fun h => hne (by rw [hc, h])

theorem State.judgeKind_moves (hb : (s.pos p).state.bound = true) (hm : s.modes.mode ≠ .config) (v : Option Verdict) :
    ReflTransGen State.AlarmMove s (s.judgeKind p f k v) := by
  unfold State.judgeKind
  split
  · exact .refl
  · split
    · exact State.standing_moves hb hm
    · exact State.disagreeing_moves hb hm

/-- The completion's judgement of the ten kinds (R106). -/
theorem State.judgeAlarms_works (hb : (s.pos p).state.bound = true) (hm : s.modes.mode ≠ .config) (v : Kind → Option Verdict) :
    s.Works (s.judgeAlarms p f v) := by
  refine State.RecordMove.works (.alarms _ _ (foldl_trans (fun t => (t.pos p).state.bound = true ∧ t.modes.mode ≠ .config) ?_ s ⟨hb, hm⟩).1)
  rintro t k - ⟨hbt, hmt⟩
  have hmoves := State.judgeKind_moves (k := k) (f := f) hbt hmt (v k)
  exact ⟨hmoves, State.AlarmMove.bound_star hmoves hbt, by rw [State.AlarmMove.modes_eq_star hmoves]; exact hmt⟩

end

/-! ## The silence check (R13, R110) -/

theorem silent_heard {now : FrameNo} {limit : Nat} {r : Position} (h : silent now limit r = true) :
    r.state = .active ∨ r.state = .assigned := by
  unfold silent at h
  split at h <;> simp_all

theorem State.becomeMissing_moves {s : State} {p : Nat} (h : (s.pos p).state = .active ∨ (s.pos p).state = .assigned)
    (hm : s.modes.mode ≠ .config) : ReflTransGen State.AlarmMove s (s.becomeMissing p) := by
  have hmove := State.AlarmMove.missing s p h hm
  have hb : (s.pos p).state.bound = true := by rcases h with h | h <;> rw [h] <;> rfl
  unfold State.becomeMissing
  dsimp only
  split
  · exact .single hmove
  · exact .head hmove (State.becomeActive_moves (hmove.bound hb) hm)

theorem State.silenceCheck_works {s : State} (hm : s.modes.mode ≠ .config) : s.Works s.silenceCheck := by
  refine State.RecordMove.works (.alarms _ _ (foldl_trans (fun t => t.modes.mode ≠ .config) ?_ s hm).1)
  intro t p _ hmt
  have hmoves : ReflTransGen State.AlarmMove t
      (if silent s.seq.frameNumber s.seq.silenceLimit (t.pos p) then t.becomeMissing p else t) := by
    split
    · exact State.becomeMissing_moves (silent_heard (by assumption)) hmt
    · exact .refl
  exact ⟨hmoves, by rw [State.AlarmMove.modes_eq_star hmoves]; exact hmt⟩

/-! ## Acknowledging (R116, R117) -/

theorem ackOne_moves {p : Nat} {acc : State × Nat × Nat} (hb : (acc.1.pos p).state.bound = true) (k : Kind) :
    ReflTransGen State.AlarmMove acc.1 (ackOne p acc k).1 :=
  .head (.withdraw acc.1 (Notice.alarmFor p k)) (.single (.setAlarm _ p k
    { (acc.1.pos p).alarms.get k with pending := false } hb (fun h => (countBelow_congr rfl _ _).trans h) (fun _ => rfl)))

theorem ackPosition_moves (ks : KindSet) {p : Nat} {acc : State × Nat × Nat} (hb : (acc.1.pos p).state.bound = true) :
    ReflTransGen State.AlarmMove acc.1 (ackPosition ks acc p).1 := by
  unfold ackPosition
  generalize Kind.all.filter (fun k => kindIn k ks) = kinds
  induction kinds generalizing acc with
  | nil => exact .refl
  | cons k kinds ih =>
    have hmoves := ackOne_moves hb k
    exact hmoves.trans (ih (State.AlarmMove.bound_star hmoves hb))

theorem State.acknowledge_works {s : State} {t : AckTarget} (h : ackNotBound s t = false) (ks : KindSet) :
    s.Works (s.acknowledge t ks).1 := by
  have hbound : ∀ p ∈ ackPositions s t, (s.pos p).state.bound = true := by
    cases t with
    | position q => intro p hp; obtain rfl := List.mem_singleton.mp hp; simpa [ackNotBound] using h
    | all => intro p hp; exact (List.mem_filter.mp hp).2
  have key : ∀ (l : List Nat) (acc : State × Nat × Nat), (∀ p ∈ l, (acc.1.pos p).state.bound = true) →
      ReflTransGen State.AlarmMove acc.1 (l.foldl (ackPosition ks) acc).1 := by
    intro l
    induction l with
    | nil => exact fun _ _ => .refl
    | cons p l ih =>
      intro acc hacc
      have hmoves := ackPosition_moves ks (hacc p List.mem_cons_self)
      exact hmoves.trans (ih _ fun q hq => State.AlarmMove.bound_star hmoves (hacc q (List.mem_cons_of_mem _ hq)))
  exact State.RecordMove.works (.alarms _ _ (key _ (s, 0, 0) hbound))

end Sys2Proof.Machine

/-! PROOF. Every event is a sequence of the part's operations: the frame's work, the commands' owners, arrivals and
completions. No event stops the part. -/

namespace Sys2Proof.Machine

open Relation (ReflTransGen)

/-! ## Records outside the table, and folds over the table -/

/-- A position the table does not hold reads as the cold record (log entry 14). -/
theorem State.pos_of_le {s : State} {p : Nat} (h : s.positions.length ≤ p) : s.pos p = Position.cold := by
  simp [State.pos, List.getD_eq_getElem?_getD, h]

theorem State.lt_of_state_ne_absent {s : State} {p : Nat} (h : (s.pos p).state ≠ .absent) : p < s.positions.length := by
  by_contra hp
  exact h (by rw [State.pos_of_le (Nat.not_lt.mp hp)]; rfl)

theorem State.enterEmpty_pos (s : State) (p q : Nat) (x : PosState) :
    (s.enterEmpty p x).pos q =
      if q = p ∧ p < s.positions.length then Position.emptied x s.seq.frameNumber else s.pos q :=
  (State.pos_congr rfl q).trans (State.setPos_pos s p q _)

theorem mem_allPositions {p : Nat} : p ∈ allPositions ↔ p < 32 := List.mem_range

/-- Work on each position's own record, one position after the other, ends with every record worked on once. -/
theorem foldl_allPositions {f : State → Nat → State} {R : Nat → Position → Position} (I : State → Prop)
    (hI : ∀ t p, I t → I (f t p))
    (hf : ∀ t p q, I t → (f t p).pos q = if q = p then R p (t.pos p) else t.pos q) {s : State} (hs : I s) :
    I (allPositions.foldl f s) ∧ ∀ q, (allPositions.foldl f s).pos q = if q < 32 then R q (s.pos q) else s.pos q := by
  have key : ∀ n, I ((List.range n).foldl f s) ∧
      ∀ q, ((List.range n).foldl f s).pos q = if q < n then R q (s.pos q) else s.pos q := by
    intro n
    induction n with
    | zero => exact ⟨hs, fun q => by simp⟩
    | succ n ih =>
      obtain ⟨hkeep, hpos⟩ := ih
      rw [List.range_succ, List.foldl_append]
      refine ⟨hI _ _ hkeep, fun q => ?_⟩
      rw [List.foldl_cons, List.foldl_nil, hf _ _ _ hkeep, hpos, hpos]
      rcases Nat.lt_trichotomy q n with h | rfl | h
      · simp [h, h.ne, Nat.lt_succ_of_lt h]
      · simp
      · simp [h.ne', show ¬q < n by omega, show ¬q < n + 1 by omega]
  exact key 32

/-! ## Candidates returned (R48) -/

/-- A candidate returned moves the list of candidates, or the conditions and the store (R48). -/
theorem State.appendCandidate_eq (s : State) (c : Candidate) :
    s.appendCandidate c = { s with join := { s.join with candidates := (s.appendCandidate c).join.candidates }
                                   store := (s.appendCandidate c).store, conds := (s.appendCandidate c).conds } := by
  unfold State.appendCandidate
  split
  · rfl
  · rw [State.raise_eq]

theorem State.returnCandidate_eq (s : State) (o : Option Offer) :
    s.returnCandidate o = { s with join := { s.join with candidates := (s.returnCandidate o).join.candidates }
                                   store := (s.returnCandidate o).store, conds := (s.returnCandidate o).conds } := by
  cases o with
  | none => rfl
  | some f => exact State.appendCandidate_eq s f.candidate

@[simp] theorem State.returnCandidate_modes (s : State) (o : Option Offer) : (s.returnCandidate o).modes = s.modes := by
  rw [State.returnCandidate_eq]
@[simp] theorem State.returnCandidate_positions (s : State) (o : Option Offer) :
    (s.returnCandidate o).positions = s.positions := by rw [State.returnCandidate_eq]
@[simp] theorem State.returnCandidate_seq (s : State) (o : Option Offer) : (s.returnCandidate o).seq = s.seq := by
  rw [State.returnCandidate_eq]
@[simp] theorem State.returnCandidate_engine (s : State) (o : Option Offer) : (s.returnCandidate o).engine = s.engine := by
  rw [State.returnCandidate_eq]
@[simp] theorem State.returnCandidate_queue (s : State) (o : Option Offer) : (s.returnCandidate o).queue = s.queue := by
  rw [State.returnCandidate_eq]
@[simp] theorem State.returnCandidate_resetLow (s : State) (o : Option Offer) : (s.returnCandidate o).resetLow = s.resetLow := by
  rw [State.returnCandidate_eq]
@[simp] theorem State.returnCandidate_pending (s : State) (o : Option Offer) : (s.returnCandidate o).pending = s.pending := by
  rw [State.returnCandidate_eq]
@[simp] theorem State.returnCandidate_pos (s : State) (o : Option Offer) (p : Nat) : (s.returnCandidate o).pos p = s.pos p :=
  State.pos_congr (State.returnCandidate_positions s o) p

/-! ## The join controller's work at a frame end (R49, R55) -/

theorem offerOver_offered {r : Position} (h : offerOver r = true) : r.state = .offered := by
  unfold offerOver at h
  simp_all

theorem learnOver_learning {r : Position} (h : learnOver r = true) : r.state = .learning := by
  unfold learnOver at h
  simp_all

theorem State.expireOffers_works {s : State} (hm : s.modes.mode ≠ .config) :
    s.Works s.expireOffers ∧ s.expireOffers.modes = s.modes := by
  refine foldl_trans (fun t => t.modes = s.modes) ?_ s rfl
  intro t p _ ht
  split
  · rename_i h
    exact ⟨State.RecordMove.works (.expireOffer t p (offerOver_offered h) (ht ▸ hm)), by simp [State.expireOffer, ht]⟩
  · exact ⟨.refl, ht⟩

/-- A learn that runs out empties its record (R55 step 3). -/
theorem State.expireLearn_pos (s : State) (p q : Nat) :
    (s.expireLearn p).pos q = if q = p ∧ p < s.positions.length then Position.emptied .vacant s.seq.frameNumber else s.pos q := by
  rw [State.expireLearn, State.queueNotice_pos, State.enterEmpty_pos]

/-- The record at a learn expiry (R55 step 3). -/
def learnEnded (frame : FrameNo) (r : Position) : Position := if learnOver r then Position.emptied .vacant frame else r

theorem State.expireLearns_pos (s : State) :
    s.expireLearns.seq = s.seq ∧ ∀ q, s.expireLearns.pos q = if q < 32 then learnEnded s.seq.frameNumber (s.pos q) else s.pos q := by
  refine foldl_allPositions (fun t => t.seq = s.seq) ?_ ?_ rfl
  · intro t p ht
    split
    · simpa [State.expireLearn] using ht
    · exact ht
  · intro t p q ht
    by_cases h : learnOver (t.pos p) = true
    · have hp : p < t.positions.length := State.lt_of_state_ne_absent (by rw [learnOver_learning h]; decide)
      simp [learnEnded, h, State.expireLearn_pos, hp, ht]
    · by_cases hq : q = p <;> simp [learnEnded, h, hq]

/-- No learn has run out once the expiries are made. -/
theorem learnOver_learnEnded (frame : FrameNo) (r : Position) : learnOver (learnEnded frame r) = false := by
  unfold learnEnded
  split
  case isTrue => rfl
  case isFalse h => simpa using h

theorem State.expireLearns_works (s : State) : s.Works s.expireLearns ∧ s.expireLearns.modes = s.modes := by
  refine foldl_trans (fun t => t.modes = s.modes) ?_ s rfl
  intro t p _ ht
  split
  · rename_i h
    have hvacate : t.Does (t.enterEmpty p .vacant) := .records _ _ (.vacate t p (by rw [learnOver_learning h]; decide))
    exact ⟨.head hvacate (State.RecordMove.works (.notice _ _ _ rfl)), by simp [State.expireLearn, ht]⟩
  · exact ⟨.refl, ht⟩

theorem State.countLearns_works (s : State) : s.Works s.countLearns ∧ s.countLearns.modes = s.modes := by
  obtain ⟨hworks, hmodes⟩ := s.expireLearns_works
  refine ⟨.tail hworks (.records _ _ <| .countLearns _ fun p hp => ?_), by unfold State.countLearns; dsimp only; exact hmodes⟩
  rw [s.expireLearns_pos.2, if_pos hp]
  exact learnOver_learnEnded _ _

section
variable {s : State}

theorem State.joinStep_works {here next : JoinWork} {work : State → State} (hm : s.modes.mode ≠ .config)
    (hwork : s.Works (work s) ∧ (work s).modes = s.modes) :
    s.Works (s.joinStep here next work) ∧ (s.joinStep here next work).modes = s.modes := by
  rcases s.joinStep_cases here next work with ⟨_, h⟩ | ⟨_, h⟩ <;> rw [h]
  · exact ⟨.tail hwork.1 (.joinWork _ _ (hwork.2 ▸ hm)), hwork.2⟩
  · exact ⟨.refl, rfl⟩

theorem State.joinToAgeOut_works (hm : s.modes.mode ≠ .config) : s.Works s.joinToAgeOut ∧ s.joinToAgeOut.modes = s.modes :=
  State.joinStep_works hm ⟨State.RecordMove.works (.ageOut s), rfl⟩

theorem State.joinToOffers_works (hm : s.modes.mode ≠ .config) : s.Works s.joinToOffers ∧ s.joinToOffers.modes = s.modes := by
  obtain ⟨hworks, hmodes⟩ := State.joinToAgeOut_works hm
  have hm' : s.joinToAgeOut.modes.mode ≠ .config := hmodes ▸ hm
  obtain ⟨hnext, hkeep⟩ := State.joinStep_works (here := .agedOut) (next := .offersExpired) hm' (State.expireOffers_works hm')
  exact ⟨hworks.trans hnext, hkeep.trans hmodes⟩

theorem State.joinFrameEnd_works (hm : s.modes.mode ≠ .config) : s.Works s.joinFrameEnd ∧ s.joinFrameEnd.modes = s.modes := by
  obtain ⟨hworks, hmodes⟩ := State.joinToOffers_works hm
  have hm' : s.joinToOffers.modes.mode ≠ .config := hmodes ▸ hm
  obtain ⟨hnext, hkeep⟩ := State.joinStep_works (here := .offersExpired) (next := .learnsCounted) hm' s.joinToOffers.countLearns_works
  exact ⟨hworks.trans hnext, hkeep.trans hmodes⟩

end

/-! ## Frames (R20, R25, R52) -/

theorem State.countOffers_works (s : State) (os : List OfferEntry) : s.Works (s.countOffers os) :=
  (foldl_trans (fun _ => True) (fun t o _ _ => ⟨State.RecordMove.works (.countOffer t o), trivial⟩) s trivial).1

theorem State.countOffer_eq (s : State) (o : OfferEntry) :
    s.countOffer o = { s with positions := (s.countOffer o).positions } := by
  unfold State.countOffer
  dsimp only
  split
  · split <;> rfl
  · rfl

/-- Counting offers moves the records alone (R52). -/
theorem State.countOffers_eq (s : State) (os : List OfferEntry) :
    s.countOffers os = { s with positions := (s.countOffers os).positions } := by
  refine foldl_keeps (fun t : State => t = { s with positions := t.positions }) _ os ?_ s rfl
  intro t o _ ht
  rw [State.countOffer_eq, ht]

theorem State.beaconSent_works (s : State) : s.Works s.beaconSent ∧ s.beaconSent.modes = s.modes := by
  unfold State.beaconSent
  split
  · exact ⟨.head (.beaconLeft s) (State.countOffers_works _ _), by rw [State.countOffers_eq]⟩
  · exact ⟨.refl, rfl⟩

/-- The offers a frame start counts at once: in TEST, those of its beacon (R25). -/
def State.startCounts (s : State) : List OfferEntry :=
  if s.modes.mode = .test then (s.begun.seq.beacon.map Beacon.offers).getD [] else []

/-- A frame start is the frame begun, with its offers counted at once in TEST (R25). -/
theorem State.startFrame_eq (s : State) : s.startFrame = s.begun.countOffers s.startCounts := by
  unfold State.startFrame State.sendBeacon State.startCounts
  by_cases hm : s.modes.mode = .test
  · have hbang : (s.modes.mode != .test) = false := by simp [hm]
    simp only [hm, State.setReoffers_modes, if_true, State.begun]
    rfl
  · have hbang : (s.modes.mode != .test) = true := by simp [hm]
    simp only [hm, State.setReoffers_modes, if_false, State.begun, hbang]
    rfl

/-- A position made MISSING moves the records, the store and the conditions (R13, R110). -/
theorem State.becomeMissing_eq (s : State) (p : Nat) :
    s.becomeMissing p = { s with positions := (s.becomeMissing p).positions, store := (s.becomeMissing p).store
                                 conds := (s.becomeMissing p).conds } := by
  unfold State.becomeMissing
  dsimp only
  split
  · rfl
  · rw [State.becomeActive, State.queueAlarm_eq]
    split
    · rfl
    · rw [State.queueNotice_eq]
      rfl

@[simp] theorem State.silenceCheck_modes (s : State) : s.silenceCheck.modes = s.modes := by
  unfold State.silenceCheck
  rw [State.judgeLamp_modes]
  refine foldl_field State.modes _ (fun t p => ?_) allPositions s
  split
  · rw [State.becomeMissing_eq]
  · rfl

theorem State.alongside_true (s : State) : s.alongside true = s.joinFrameEnd.silenceCheck := if_pos rfl

theorem State.alongside_false (s : State) : s.alongside false = s.silenceCheck.joinFrameEnd := if_neg Bool.false_ne_true

theorem State.frameEndWork_works {s : State} (hm : s.modes.mode ≠ .config) :
    s.Works s.frameEndWork ∧ s.frameEndWork.modes = s.modes := by
  have halong : s.Works (s.alongside Config.joinWorkFirst) ∧ (s.alongside Config.joinWorkFirst).modes = s.modes := by
    obtain ⟨hjoin, hjm⟩ := State.joinFrameEnd_works hm
    cases Config.joinWorkFirst with
    | true =>
      rw [State.alongside_true]
      exact ⟨hjoin.trans (State.silenceCheck_works (hjm ▸ hm)), (State.silenceCheck_modes _).trans hjm⟩
    | false =>
      rw [State.alongside_false]
      have hsm : s.silenceCheck.modes.mode ≠ .config := by rw [State.silenceCheck_modes]; exact hm
      obtain ⟨hj, hjm⟩ := State.joinFrameEnd_works hsm
      exact ⟨(State.silenceCheck_works hm).trans hj, hjm.trans s.silenceCheck_modes⟩
  exact ⟨.tail halong.1 (.handOver _), by unfold State.frameEndWork; exact halong.2⟩

theorem State.frameEnd_works {s : State} (hm : s.modes.mode ≠ .config) : s.Works s.frameEnd := by
  obtain ⟨hsent, hsm⟩ := s.beaconSent_works
  have hms : s.beaconSent.modes.mode ≠ .config := hsm ▸ hm
  obtain ⟨hwork, hwm⟩ := State.frameEndWork_works hms
  have hmw : s.beaconSent.frameEndWork.modes.mode ≠ .config := hwm ▸ hms
  unfold State.frameEnd
  split
  · exact .tail hsent (.toConfig _ hms)
  · rename_i m hne _
    rw [State.startFrame_eq]
    exact ((hsent.trans hwork).tail (.changeMode _ m (fun h => hne h) hmw)).trans (State.countOffers_works _ _)
  · rw [State.startFrame_eq]
    exact ((hsent.trans hwork).tail (.begin _ hmw)).trans (State.countOffers_works _ _)

theorem State.leaveConfig_works {s : State} {m : Mode} (hm : m ≠ .config) (high : s.resetLow = false) :
    s.Works (s.leaveConfig m) := by
  unfold State.leaveConfig
  rw [State.startFrame_eq]
  exact (((ReflTransGen.single (.leaveConfig s m hm high)).trans (State.countOffers_works _ _)).tail (.records _ _ <| .reenter _)).tail
    (.records _ _ <| .notice _ _ _ rfl)

/-! ## Arrivals (R32 to R38) -/

theorem State.arrive_works {s : State} (hm : s.modes.mode ≠ .config) (t : Telegram) (slot : Nat) (ch : Channel) :
    s.Works (s.arrive t slot ch) := by
  unfold State.arrive
  split
  case h_1 => exact State.RecordMove.works (.raise _ _)
  case h_2 => exact State.RecordMove.works (.raise _ _)
  case h_3 h => exact State.RecordMove.works (.accept s t slot ch h hm)
  all_goals exact .refl

/-! ## The JOIN decision (R43 to R46) -/

theorem State.learningPosition_learning {s : State} {p : Nat} (h : s.learningPosition = some p) :
    (s.pos p).state = .learning := by simpa using List.find?_some h

theorem findCandidate_id {id : SensorId} {cs : List Candidate} {c : Candidate} (h : findCandidate id cs = some c) : c.id = id := by
  simpa using List.find?_some h

theorem State.learnFrom_works {s : State} (hm : s.modes.mode ≠ .config) (e : QueueEntry) : s.Works (s.learnFrom e) := by
  unfold State.learnFrom
  split
  · rename_i p c hp hc
    split
    · refine State.RecordMove.works (.offer s p c ?_ (.inl (State.learningPosition_learning hp)) hm)
      rw [findCandidate_id hc]
      exact hc
    · exact .refl
  · exact .refl

theorem State.admitJoin_works {s : State} {e : QueueEntry} (hm : s.modes.mode ≠ .config)
    (hfree : ∀ f : PosState → Bool, f = PosState.bound ∨ f = (· == .offered) → s.idHeld f e.telegram.id = false) :
    s.Works (s.admitJoin e) := by
  unfold State.admitJoin
  split
  · exact .head (.records _ _ <| .refresh s e hm) (State.learnFrom_works (by simpa using hm) e)
  · rename_i hnew
    split
    · rename_i hroom
      have hnone : findCandidate e.telegram.id s.join.candidates = none := by simpa using hnew
      exact .head (.records _ _ <| .newCandidate s (Candidate.ofJoin e) hnone hfree hroom hm)
        (.head (.records _ _ <| .notice _ _ _ rfl) (State.learnFrom_works (by simpa using hm) e))
    · exact State.RecordMove.works (.raise _ _)

theorem State.joinDecision_works (s : State) (e : QueueEntry) : s.Works (s.joinDecision e) := by
  unfold State.joinDecision
  split
  · exact .refl
  rename_i hm
  split
  · exact State.RecordMove.works (.reoffer s _ hm)
  rename_i hb
  split
  · exact .refl
  rename_i ho
  split
  · refine State.admitJoin_works hm ?_
    rintro f (rfl | rfl)
    · simpa using hb
    · simpa using ho
  · exact .refl

/-! ## Completion of a REPORT (R71 to R73) -/

theorem State.raiseMet_works (s : State) (c : AssessConditions) : s.Works (s.raiseMet c) := by
  unfold State.raiseMet
  dsimp only
  split <;> split
  · exact .head (.records _ _ <| .raise _ _) (State.RecordMove.works (.raise _ _))
  · exact State.RecordMove.works (.raise _ _)
  · exact State.RecordMove.works (.raise _ _)
  · exact .refl

/-- Raising the conditions met moves the condition set and the store alone (R72). -/
theorem State.raiseMet_eq (s : State) (c : AssessConditions) :
    s.raiseMet c = { s with store := (s.raiseMet c).store, conds := (s.raiseMet c).conds } := by
  unfold State.raiseMet
  dsimp only
  split <;> split
  · rw [State.raise_eq, State.raise_eq s]
  · rw [State.raise_eq]
  · rw [State.raise_eq]
  · rfl

/-- A written record keeps every position's state and sensor. -/
@[simp] theorem State.writeRecord_state (s : State) (e : QueueEntry) (r : Results) (q : Nat) :
    ((s.writeRecord e r).pos q).state = (s.pos q).state := by
  unfold State.writeRecord
  rw [State.setPos_pos]
  split
  case isTrue h => rw [h.1]
  case isFalse => rfl

theorem State.handOn_works {s : State} {w : InFlight} {c : Capture} (hw : s.engine = .busy w) (hc : w.capture = some c)
    (hb : (s.pos w.entry.position).state.bound = true) : s.Works (s.handOn w c) := by
  have hwrite : s.Works ((s.raiseMet (handedResults w c s.modes.mode).conditions).writeRecord w.entry
      (handedResults w c s.modes.mode)) := by
    refine .tail (State.raiseMet_works s (handedResults w c s.modes.mode).conditions) ?_
    have hmode : (s.raiseMet (handedResults w c s.modes.mode).conditions).modes = s.modes := by rw [State.raiseMet_eq]
    have hstep := State.RecordMove.write (s.raiseMet (handedResults w c s.modes.mode).conditions) w c
      (by rw [State.raiseMet_eq]; exact hw) hc
    rw [hmode] at hstep
    exact hstep.does
  unfold State.handOn
  dsimp only
  split
  · exact hwrite
  · rename_i hm
    refine (hwrite.trans (State.judgeAlarms_works (p := w.entry.position) (f := w.entry.frame) ?_ ?_
      (verdict w.entry c (handedResults w c s.modes.mode) (s.pos w.entry.position).state))).trans ?_
    · rw [State.writeRecord_state, State.raiseMet_eq]; exact hb
    · rw [State.writeRecord_modes, State.raiseMet_eq]; exact hm
    · unfold State.queueReading
      split
      · exact State.RecordMove.works (.notice _ _ _ rfl)
      · exact .refl

theorem State.entryHolds_bound {s : State} {e : QueueEntry} (h : s.entryHolds e = true) :
    (s.pos e.position).state.bound = true := by
  unfold State.entryHolds Position.holds at h
  simp_all

theorem State.completeReport_works {s : State} {w : InFlight} {c : Capture} (hw : s.engine = .busy w)
    (hc : w.capture = some c) : s.Works (s.completeReport w c) := by
  unfold State.completeReport
  split
  · exact .refl
  · rename_i h
    exact State.handOn_works hw hc (State.entryHolds_bound (by simp_all))

end Sys2Proof.Machine

/-! PROOF. The commands' owners and every row of the table, as work of the part; no event stops it, and none touches the
waiting events. -/

namespace Sys2Proof.Machine

open Relation (ReflTransGen)

/-! ## Ranges that the clamps guarantee -/

theorem clampNat_range {lo hi : Nat} (h : lo ≤ hi) (n : Nat) : lo ≤ clampNat lo hi n ∧ clampNat lo hi n ≤ hi := by
  rw [clampNat_eq h]
  omega

/-- Clamped and consistent limits lie in their ranges (R80, R83). -/
theorem Limits.clamp_inRange {l : Limits} (hpct : l.clamp.lowWarnPct < l.clamp.lowAlarmPct)
    (hhot : l.clamp.hotWarn < l.clamp.hotAlarm) : l.clamp.inRange = true := by
  have h1 := clampNat_range (show 0 ≤ 40 by omega) l.tref
  have h2 := clampNat_range (show 1 ≤ 50 by omega) l.lowWarnPct
  have h3 := clampNat_range (show 2 ≤ 80 by omega) l.lowAlarmPct
  have h4 := clampNat_range (show 1 ≤ 50 by omega) l.highWarnPct
  have h5 := clampNat_range (show 0 ≤ 100 by omega) l.hysteresis
  have h6 := clampNat_range (show 40 ≤ 150 by omega) l.hotWarn
  have h7 := clampNat_range (show 41 ≤ 180 by omega) l.hotAlarm
  have h8 := clampNat_range (show 1 ≤ 200 by omega) l.leak
  have h9 := clampNat_range (show 10 ≤ 400 by omega) l.dual
  have h10 := clampNat_range (show 10 ≤ 255 by omega) l.interval
  unfold Limits.inRange
  exact decide_eq_true ⟨h1.2, h2.1, h2.2, h3.1, h3.2, hpct, h4.1, h4.2, h5.2, h6.1, h6.2, h7.1, h7.2, hhot, h8.1, h8.2, h9.1,
    h9.2, h10.1, h10.2⟩

theorem downlinkOf_ne_park {b : Byte} {v : DownlinkValue} (h : downlinkOf b = some v) : v ≠ .park := by
  have hmem := List.mem_of_find?_eq_some h
  rintro rfl
  simp at hmem

/-! ## The owners -/

section
variable {s : State} {p : List Byte}

theorem ownSetMode_works (high : s.resetLow = false) : s.Works (ownSetMode p s).1 := by
  unfold ownSetMode
  split
  · split
    · exact .refl
    rename_i m _
    split
    · exact .refl
    split
    · exact .refl
    rename_i hne
    split
    · rename_i hconfig
      split
      · exact State.leaveConfig_works (fun h => hne (h.trans hconfig.symm)) high
      · exact .refl
    · rename_i hruns
      exact State.Does.works (.pendMode s m hruns)
  · exact .refl

theorem ownSetPort_works : s.Works (ownSetPort p s).1 := by
  unfold ownSetPort
  split
  · exact State.Does.works (.hostLimit s _ (clampNat_range (by omega) _).2)
  · exact .refl

theorem ownSetAxle_works (hm : s.modes.mode = .config) : s.Works (ownSetAxle p s).1 := by
  unfold ownSetAxle
  split
  · split
    · rename_i ha
      split
      · dsimp only
        refine State.Does.works (.axle s _ _ ?_ ha.1 ha.2 hm)
        have he := clampNat_range (show 100 ≤ 4000 by omega)
        unfold Axle.inRange
        rw [decide_eq_true_iff]
        exact ⟨(he _).1, (he _).2, (he _).1, (he _).2⟩
      · exact .refl
    · exact .refl
  · exact .refl

theorem ownSetLimits_works : s.Works (ownSetLimits p s).1 := by
  unfold ownSetLimits
  split
  · split
    · exact .refl
    · exact State.Does.works (.limits s _ (Limits.clamp_inRange (by omega) (by omega)))
  · exact .refl

theorem ownSetClass_works (hm : s.modes.mode = .config) : s.Works (ownSetClass p s).1 := by
  unfold ownSetClass
  split
  · split
    · rename_i n _ _ _ k _ _ _ _ _
      refine State.Does.works (.kind s _ _ ?_ hm)
      unfold KindSetting.inRange
      by_cases hk : k = .missing
      · simp [hk]
      · have hc := clampNat_range (show 1 ≤ 4 by omega) n.toNat
        simp [hk, natWithin, hc.1, hc.2]
    · exact .refl
  · exact .refl

theorem ownSetFilter_works : s.Works (ownSetFilter p s).1 := by
  unfold ownSetFilter
  split
  · split
    · split
      · exact State.Does.works (.filter s _ _)
      · exact .refl
    · exact .refl
  · exact .refl

theorem ownSetLink_works (hm : s.modes.mode = .config) : s.Works (ownSetLink p s).1 := by
  unfold ownSetLink
  split
  · exact State.Does.works (.link s _ _ _ (clampNat_range (by omega) _) (decide_eq_true (clampNat_range (by omega) _)) hm)
  · exact .refl

theorem ownSetMask_works : s.Works (ownSetMask p s).1 := by
  unfold ownSetMask
  split
  · split
    · exact State.Does.works (.mask s _)
    · exact .refl
  · exact .refl

theorem ownSetReadings_works : s.Works (ownSetReadings p s).1 := by
  unfold ownSetReadings
  split
  · split
    · exact State.Does.works (.readings s _)
    · exact .refl
  · exact .refl

theorem ownAmbient_works : s.Works (ownAmbient p s).1 := by
  unfold ownAmbient
  split
  · exact State.Does.works (.ambient s _ (decide_eq_true (clampNat_range (by omega) _)))
  · exact .refl

theorem ownLoad_works : s.Works (ownLoad p s).1 := by
  unfold ownLoad
  split
  · split
    · exact State.Does.works (.load s _)
    · exact .refl
  · exact .refl

theorem ownSensorMode_works : s.Works (ownSensorMode p s).1 := by
  unfold ownSensorMode
  split
  · split
    · exact State.Does.works (.downlink s _ (downlinkOf_ne_park (by assumption)))
    · exact .refl
  · exact .refl

theorem ownLearn_works (hm : s.modes.mode ≠ .config) : s.Works (ownLearn p s).1 := by
  unfold ownLearn
  split
  · split
    · split
      · exact .refl
      rename_i hvacant
      split
      · exact .refl
      rename_i hnone
      split
      · exact .refl
      rename_i hroom
      exact State.RecordMove.works (.learn s _ (by simpa using hvacant) (by simpa using hnone) (by simpa using hroom) hm)
    · exact .refl
  · exact .refl

theorem ownBind_works (hm : s.modes.mode ≠ .config) : s.Works (ownBind p s).1 := by
  unfold ownBind
  split
  · split
    · split
      · exact .refl
      rename_i hvacant
      split
      · exact .refl
      rename_i c hc
      split
      · exact .refl
      rename_i hroom
      refine State.RecordMove.works (.offer s _ c (by rw [findCandidate_id hc]; exact hc) (.inr ⟨?_, by simpa using hroom⟩) hm)
      simpa using hvacant
    · exact .refl
  · exact .refl

theorem ownCancel_works : s.Works (ownCancel p s).1 := by
  unfold ownCancel
  split
  · split
    · split
      · rename_i h
        exact State.RecordMove.works (.release s _ (fun ha => by rw [ha] at h; exact absurd h (by decide)))
      · exact .refl
    · exact .refl
  · exact .refl

theorem ownUnbind_works : s.Works (ownUnbind p s).1 := by
  unfold ownUnbind
  split
  · split
    · split
      · exact .refl
      · rename_i h
        exact State.RecordMove.works (.release s _ (fun ha => h (.inl ha)))
    · exact .refl
  · exact .refl

theorem ownAckAlarm_works : s.Works (ownAckAlarm p s).1 := by
  unfold ownAckAlarm
  split
  · split
    · split
      · exact .refl
      split
      · exact .refl
      · exact State.acknowledge_works (Bool.eq_false_iff.mpr (by assumption)) _
    · exact .refl
  · exact .refl

theorem ownClearConditions_works : s.Works (ownClearConditions p s).1 := by
  unfold ownClearConditions
  split
  · split
    · exact State.Does.works (.clearConds s _)
    · exact .refl
  · exact .refl

theorem ownInject_works (hm : s.modes.mode ≠ .config) : s.Works (ownInject p s).1 := by
  unfold ownInject
  split
  · exact State.arrive_works hm _ _ _
  · exact .refl

theorem ownGetWheel_works : s.Works (ownGetWheel p s).1 := by
  unfold ownGetWheel
  split
  · split <;> exact .refl
  · exact .refl

/-- The commands of CONFIG alone (R156 check 3). -/
theorem config_of_acceptedIn {c : Command} {m : Mode} (hc : c ∈ [.setAxle, .setLimits, .setClass, .setFilter, .setLink])
    (h : c.acceptedIn m = true) : m = .config := by
  by_contra hm
  rw [(acceptedIn_eq_false_iff c m).mpr (.inl ⟨hc, hm⟩)] at h
  exact Bool.false_ne_true h

/-- The commands that no other mode than RUN and TEST takes (R156 check 3). -/
theorem runs_of_acceptedIn {c : Command} {m : Mode} (hc : c ∈ [.learn, .bind, .cancel, .inject])
    (h : c.acceptedIn m = true) : m ≠ .config := by
  rintro rfl
  revert h
  cases c <;> simp_all [Command.acceptedIn]

/-- What an owner does, in a mode that accepts its command, is work of the part. -/
theorem ownerOf_works (silent : Bool) (c : Command) (high : s.resetLow = false) (h : c.acceptedIn s.modes.mode = true) :
    s.Works (ownerOf silent c p s).1 := by
  cases c with
  | identify | getStatus | restart | getCandidates | getSummary => exact .refl
  | setMode => exact ownSetMode_works high
  | setPort => exact ownSetPort_works
  | setAxle => exact ownSetAxle_works (config_of_acceptedIn (by decide) h)
  | setLimits => exact ownSetLimits_works
  | setClass => exact ownSetClass_works (config_of_acceptedIn (by decide) h)
  | setFilter => exact ownSetFilter_works
  | setLink => exact ownSetLink_works (config_of_acceptedIn (by decide) h)
  | setMask => exact ownSetMask_works
  | setReadings => exact ownSetReadings_works
  | ambient => exact ownAmbient_works
  | load => exact ownLoad_works
  | sensorMode => exact ownSensorMode_works
  | learn => exact ownLearn_works (runs_of_acceptedIn (by decide) h)
  | bind => exact ownBind_works (runs_of_acceptedIn (by decide) h)
  | unbind => exact ownUnbind_works
  | cancel => exact ownCancel_works
  | getWheel => exact ownGetWheel_works
  | ackAlarm => exact ownAckAlarm_works
  | clearConditions => exact ownClearConditions_works
  | inject => exact ownInject_works (runs_of_acceptedIn (by decide) h)

end

/-! ## Control frames -/

/-- A good frame is work, whatever it then does. -/
theorem State.framed_works (s : State) : s.Works s.framed := by
  rw [← State.goodFrame_eq]
  exact State.Does.works (.goodFrame s)

/-- A frame taken is a command's work and its reply, or the overrun of the buffer (R155). -/
theorem State.takeFrame_event {s : State} (high : s.resetLow = false) (kind : Byte) {work : State → State × Answer}
    (h : s.taking.Works (work s.taking).1) : s.Event (s.takeFrame kind work) := by
  by_cases hr : s.store.reply = .empty
  · rw [State.takeFrame_ready hr]
    exact .command s _ kind _ ⟨high, hr⟩ h
  · rw [State.takeFrame_overlap hr]
    exact .works s _ (s.framed_works.tail (.records _ _ <| .raise _ _))

theorem State.commandFrame_event (s : State) (c : Command) (p : List Byte) (silent : Bool) :
    s.Event (s.commandFrame c (ownerOf silent c) p) := by
  unfold State.commandFrame
  split
  · exact .works s s .refl
  · rename_i hr
    have high : s.resetLow = false := by simpa using hr
    refine State.takeFrame_event high _ ?_
    unfold commonChecks
    split
    · exact .refl
    · split
      · exact ownerOf_works silent c high (by assumption)
      · exact .refl

theorem State.anyFrame_event (s : State) (kind : Byte) (p : List Byte) : s.Event (s.anyFrame kind p) := by
  unfold State.anyFrame
  split
  · exact s.commandFrame_event _ p _
  · unfold State.unknownFrame
    split
    · exact .works s s .refl
    · exact State.takeFrame_event (by simp_all) kind .refl

theorem State.judgeFrame_event (s : State) (l kind : Byte) (p : List Byte) (check : BitVec 16) :
    s.Event (s.judgeFrame l kind p check) := by
  unfold State.judgeFrame
  split
  · exact s.anyFrame_event kind p
  · exact .works s _ (State.Does.works (.abandon s))

/-- A byte leads the receiver from one fitting framing state to the next (R152). -/
theorem State.takeByte_event (s : State) (b : Byte) : s.Event (s.takeByte b) := by
  have assembles : ∀ r : Receiver, (s.port.receiver.fits = true → r.fits = true) → s.Event (s.assemble r) :=
    fun r h => .works s _ (State.Does.works (.assemble s r h))
  unfold State.takeByte
  split
  case h_1 =>
    split
    · exact assembles _ fun _ => rfl
    · exact .works s s .refl
  case h_2 =>
    split
    · rename_i hb
      exact assembles _ fun _ => decide_eq_true hb
    · exact .works s _ (State.Does.works (.abandon s))
  case h_3 l hrec =>
    rw [hrec] at assembles
    split
    · rename_i hl
      exact assembles _ fun _ => by rw [hl]; rfl
    · rename_i hl
      refine assembles _ fun h => decide_eq_true ⟨of_decide_eq_true h, ?_⟩
      exact Nat.pos_of_ne_zero fun h0 => hl (BitVec.eq_of_toNat_eq h0)
  case h_4 l k got hrec =>
    rw [hrec] at assembles
    have lengths : Receiver.fits (.payload l k got) = true → l.toNat ≤ Config.maxPayload ∧ got.length < l.toNat :=
      of_decide_eq_true
    split
    · rename_i hl
      exact assembles _ fun h => decide_eq_true ⟨(lengths h).1, by simpa using hl⟩
    · rename_i hl
      refine assembles _ fun h => decide_eq_true ⟨(lengths h).1, ?_⟩
      have hlt := (lengths h).2
      rw [List.length_append, List.length_singleton]
      omega
  case h_5 l k p hrec =>
    rw [hrec] at assembles
    exact assembles _ fun h => h
  case h_6 => exact s.judgeFrame_event _ _ _ _

theorem State.receiveByte_event (s : State) (b : Byte) : s.Event (s.receiveByte b) := by
  unfold State.receiveByte
  split
  · exact .works s s .refl
  · exact s.takeByte_event b

/-! ## Every row -/

/-- A row that does its work under a guard and nothing otherwise. -/
theorem State.Event.guarded {s t : State} {b : Prop} [Decidable b] (h : b → s.Works t) : s.Event (if b then t else s) := by
  split
  · exact .works s t (h (by assumption))
  · exact .works s s .refl

theorem State.usualFrameEnd_runs {s : State} (h : s.usualFrameEnd = true) : s.modes.mode ≠ .config := by
  unfold State.usualFrameEnd at h
  intro hm
  simp [hm] at h

theorem State.frameRuns_runs {s : State} (h : s.frameRuns = true) : s.modes.mode ≠ .config := by
  unfold State.frameRuns at h
  intro hm
  simp [hm] at h

theorem State.hears_runs {s : State} (h : s.hears = true) : s.modes.mode ≠ .config := by
  unfold State.hears at h
  intro hm
  simp [hm] at h

theorem execReportCompletion_event (s : State) : ∃ t, execReportCompletion s = .next t ∧ s.Event t := by
  unfold execReportCompletion
  split
  · rename_i w hw
    split
    · rename_i c hc
      exact ⟨_, rfl, .works s _ (.tail (State.completeReport_works hw hc) (.records _ _ <| .finish _))⟩
    · exact ⟨_, rfl, .works s s .refl⟩
  · exact ⟨_, rfl, .works s s .refl⟩

theorem execJoinCompletion_event (s : State) : ∃ t, execJoinCompletion s = .next t ∧ s.Event t := by
  unfold execJoinCompletion
  split
  · rename_i w hw
    split
    · exact ⟨_, rfl, .works s s .refl⟩
    · exact ⟨_, rfl, .works s _ (.tail (State.joinDecision_works s w.entry) (.records _ _ <| .finish _))⟩
  · exact ⟨_, rfl, .works s s .refl⟩

/-- Every row goes on from every state, with one of the part's events. -/
theorem exec_event (i : Instr) (s : State) : ∃ t, exec i s = .next t ∧ s.Event t := by
  have command : ∀ c p, ∃ t, exec (Command.instr c p) s = .next t ∧ s.Event t :=
    fun c p => ⟨_, exec_instr c p s, s.commandFrame_event c p _⟩
  cases i with
  | identify p => exact command .identify p
  | getStatus p => exact command .getStatus p
  | setMode p => exact command .setMode p
  | restart p => exact command .restart p
  | setPort p => exact command .setPort p
  | setAxle p => exact command .setAxle p
  | setLimits p => exact command .setLimits p
  | setClass p => exact command .setClass p
  | setFilter p => exact command .setFilter p
  | setLink p => exact command .setLink p
  | setMask p => exact command .setMask p
  | setReadings p => exact command .setReadings p
  | ambient p => exact command .ambient p
  | load p => exact command .load p
  | sensorMode p => exact command .sensorMode p
  | learn p => exact command .learn p
  | bind p => exact command .bind p
  | unbind p => exact command .unbind p
  | cancel p => exact command .cancel p
  | getCandidates p => exact command .getCandidates p
  | getWheel p => exact command .getWheel p
  | getSummary p => exact command .getSummary p
  | ackAlarm p => exact command .ackAlarm p
  | clearConditions p => exact command .clearConditions p
  | inject p => exact command .inject p
  | unknownCommand kind p => exact ⟨_, rfl, s.anyFrame_event kind p⟩
  | hostOverrun kind p => exact ⟨_, rfl, s.anyFrame_event kind p⟩
  | badCheckFrame kind p check =>
    refine ⟨_, rfl, ?_⟩
    split
    · exact .works s s .refl
    · exact s.judgeFrame_event _ _ _ _
  | frameAbandoned b => exact ⟨_, rfl, s.receiveByte_event b⟩
  | controlByteReceived b => exact ⟨_, rfl, s.receiveByte_event b⟩
  | byteGapExpiry => exact ⟨_, rfl, .guarded fun _ => State.Does.works (.abandon s)⟩
  | hostSilenceExpiry => exact ⟨_, rfl, .guarded fun h => State.Does.works (.hostSilence s h)⟩
  | frameEnd => exact ⟨_, rfl, .guarded fun h => State.frameEnd_works (State.frameRuns_runs h)⟩
  | modeChange =>
    refine ⟨_, rfl, .guarded fun h => State.frameEnd_works (State.frameRuns_runs ?_)⟩
    exact ((Bool.and_eq_true _ _).mp h).1
  | silenceCheck => exact ⟨_, rfl, .guarded fun h => State.silenceCheck_works (State.usualFrameEnd_runs h)⟩
  | offerExpiry => exact ⟨_, rfl, .guarded fun h => (State.joinToOffers_works (State.usualFrameEnd_runs h)).1⟩
  | learnExpiry => exact ⟨_, rfl, .guarded fun h => (State.joinFrameEnd_works (State.usualFrameEnd_runs h)).1⟩
  | ageOut => exact ⟨_, rfl, .guarded fun h => (State.joinToAgeOut_works (State.usualFrameEnd_runs h)).1⟩
  | beaconSent => exact ⟨_, rfl, .works s _ s.beaconSent_works.1⟩
  | radioArrival ch slot burst =>
    refine ⟨_, rfl, ?_⟩
    split
    · rename_i h
      split
      · exact .works s _ (State.arrive_works (State.hears_runs h) _ _ _)
      · exact .works s s .refl
      · exact .works s s .refl
    · exact .works s s .refl
  | assessmentStart => exact ⟨_, rfl, .works s _ (State.RecordMove.works (.runEngine s))⟩
  | reportCompletion => exact execReportCompletion_event s
  | joinCompletion => exact execJoinCompletion_event s
  | messageBoundary =>
    refine ⟨_, rfl, ?_⟩
    split
    · exact .warmRestart s
    · exact .boundary s
  | warmRestart =>
    refine ⟨_, rfl, ?_⟩
    split
    · exact .warmRestart s
    · exact .works s s .refl
  | coldReset => exact ⟨_, rfl, .coldReset s⟩
  | resetRelease =>
    refine ⟨_, rfl, ?_⟩
    split
    · exact .release s
    · exact .works s s .refl

/-! ## Nothing stops the part -/

/-- An engine that takes entries moves the queue and itself alone (R67, R68). -/
theorem State.takeFrom_eq (s : State) (es : List QueueEntry) :
    s.takeFrom es = { s with queue := (s.takeFrom es).queue, engine := (s.takeFrom es).engine } := by
  induction es with
  | nil => rfl
  | cons e es ih =>
    unfold State.takeFrom
    split
    · rfl
    · exact ih

theorem State.runEngine_eq (s : State) : s.runEngine = { s with queue := s.runEngine.queue, engine := s.runEngine.engine } := by
  unfold State.runEngine
  split
  · exact State.takeFrom_eq s s.queue
  · rfl

theorem State.finish_eq (s : State) : s.finish = { s with queue := s.finish.queue, engine := s.finish.engine } := by
  unfold State.finish
  rw [State.runEngine_eq]

/-- The table told of an arrival: the record, the store and the conditions move (R11, R60). -/
theorem State.tellArrival_eq (s : State) (p : Nat) (ch : Channel) :
    s.tellArrival p ch = { s with positions := s.positions.set p ((s.pos p).heard s.seq.frameNumber ch)
                                  store := (s.tellArrival p ch).store, conds := (s.tellArrival p ch).conds } := by
  unfold State.tellArrival
  dsimp only
  split
  · rw [State.queueNotice_eq]; rfl
  · rfl

/-- An acceptance: the queue and the engine, the marks, the record told, and a BIND notice (R36). -/
theorem State.accept_eq (s : State) (t : Telegram) (slot : Nat) (ch : Channel) :
    s.accept t slot ch = { s with
      queue := (s.accept t slot ch).queue, engine := (s.accept t slot ch).engine, link := s.link.mark t slot
      positions := (s.accept t slot ch).positions, store := (s.accept t slot ch).store, conds := (s.accept t slot ch).conds } := by
  unfold State.accept
  dsimp only
  split
  · rw [State.runEngine_eq, State.tellArrival_eq]
  · rw [State.runEngine_eq]

theorem State.AlarmMove.step_eq {s t : State} (h : s.AlarmMove t) :
    t = { s with positions := t.positions, store := t.store, conds := t.conds } := by
  cases h with
  | notice n p => rw [State.queueNotice_eq]
  | _ => rfl

/-- Changes of the alarms move the records, the store and the conditions. -/
theorem State.AlarmMove.eq {s t : State} (h : ReflTransGen State.AlarmMove s t) :
    t = { s with positions := t.positions, store := t.store, conds := t.conds } := by
  induction h with
  | refl => rfl
  | tail _ hstep ih => rw [hstep.step_eq, ih]

/-- A change of the records leaves every setting, the frame, the port and the mode. -/
theorem State.RecordMove.eq {s t : State} (h : s.RecordMove t) :
    t = { s with link := t.link, join := { s.join with candidates := t.join.candidates, reoffers := t.join.reoffers }
                 positions := t.positions, queue := t.queue, engine := t.engine, lamp := t.lamp, conds := t.conds
                 store := t.store } := by
  cases h with
  | notice => rw [State.queueNotice_eq]
  | raise => rw [State.raise_eq]
  | alarms t moves => rw [State.AlarmMove.eq moves]; rfl
  | release => rw [State.returnCandidate_eq]; rfl
  | expireOffer => rw [State.expireOffer, State.returnCandidate_eq, State.queueNotice_eq]; rfl
  | reoffer id => rw [State.reoffer_eq]; rfl
  | countOffer => rw [State.countOffer_eq]
  | accept => rw [State.accept_eq]
  | runEngine => rw [State.runEngine_eq]
  | finish => rw [State.finish_eq]
  | _ => rfl

/-! ## What lies outside the part's work -/

/-- What lies outside the part's work: the waiting events and the level of RESET. -/
def State.outside (s : State) : List Instr × Bool := (s.pending, s.resetLow)

theorem State.fit_eq (s : State) (p : Nat) :
    s.fit p = { s with positions := (s.fit p).positions, engine := (s.fit p).engine, lamp := (s.fit p).lamp
                       store := (s.fit p).store } := by
  unfold State.fit
  split_ifs <;> rfl

/-- A stored axle moves the plan, and what entering VACANT or ABSENT moves (R3, R4, R12). -/
theorem State.storeAxle_eq (s : State) (a : Nat) (entry : Axle) :
    s.storeAxle a entry = { s with
      axles := s.axles.set (a - 1) entry, positions := (s.storeAxle a entry).positions
      engine := (s.storeAxle a entry).engine, lamp := (s.storeAxle a entry).lamp, store := (s.storeAxle a entry).store } := by
  refine foldl_keeps (fun t : State => t = { s with
    axles := s.axles.set (a - 1) entry, positions := t.positions, engine := t.engine, lamp := t.lamp, store := t.store })
    State.fit (axlePositions a) ?_ _ rfl
  intro t p _ ht
  rw [State.fit_eq, ht]

theorem State.failBinding_eq (s : State) (p : Nat) :
    s.failBinding p = { s with positions := (s.failBinding p).positions, engine := (s.failBinding p).engine
                               lamp := (s.failBinding p).lamp, conds := (s.failBinding p).conds
                               store := (s.failBinding p).store } := by
  unfold State.failBinding
  split
  · rw [State.queueNotice_eq]; rfl
  · rfl

/-- The join controller's work at a change to CONFIG moves the records, the engine's void mark, LAMP, the conditions and the
store, and empties its two lists (R54). -/
theorem State.joinToConfig_eq (s : State) :
    s.joinToConfig = { s with
      join := { s.join with candidates := [], reoffers := [] }, positions := s.joinToConfig.positions
      engine := s.joinToConfig.engine, lamp := s.joinToConfig.lamp, conds := s.joinToConfig.conds
      store := s.joinToConfig.store } := by
  have hfold := foldl_keeps (fun t : State => t = { s with
    positions := t.positions, engine := t.engine, lamp := t.lamp, conds := t.conds, store := t.store })
    State.failBinding allPositions (fun t p _ ht => by rw [State.failBinding_eq, ht]) s rfl
  unfold State.joinToConfig
  generalize allPositions.foldl State.failBinding s = t at hfold
  rw [hfold]
  rfl

/-- The state the join controller meets at a change to CONFIG: the withdrawal and the position table's work are made (R13, R143). -/
def State.configTable (s : State) : State :=
  { s.withdraw Notice.alarmOrReading with positions := s.positions.map (Position.toConfig s.seq.frameNumber) }

/-- The link receiver, the queue, the engine and the sequencer do their work at a change to CONFIG (R20, R37, R77, R168). -/
def State.halted (s : State) : State :=
  { s with link := LinkReceiver.clear, queue := [], engine := s.engine.markHistory, seq := s.seq.stop, joinWork := .due }

/-- A change to CONFIG: the table, the join controller, the other blocks, then the mode and its notice (R168). -/
theorem State.changeToConfig_eq (s : State) :
    s.changeToConfig = (s.configTable.joinToConfig.halted.enterMode .config).noticeMode .config := rfl

theorem State.changeToConfig_outside (s : State) : s.changeToConfig.outside = s.outside := by
  rw [State.changeToConfig_eq, State.noticeMode, State.queueNotice_eq, State.joinToConfig_eq]
  rfl

theorem State.Does.outside_eq {s t : State} (h : s.Does t) : t.outside = s.outside := by
  cases h with
  | records _ move => rw [move.eq]; rfl
  | toConfig => exact s.changeToConfig_outside
  | changeMode m => rw [State.noticeMode, State.queueNotice_eq]; rfl
  | axle a entry => rw [State.storeAxle_eq]; rfl
  | _ => rfl

theorem State.Works.outside_eq {s t : State} (h : s.Works t) : t.outside = s.outside := by
  induction h with
  | refl => rfl
  | tail _ hstep ih => rw [hstep.outside_eq, ih]

theorem State.Works.pending_eq {s t : State} (h : s.Works t) : t.pending = s.pending := congrArg Prod.fst h.outside_eq

theorem State.Works.resetLow_eq {s t : State} (h : s.Works t) : t.resetLow = s.resetLow := congrArg Prod.snd h.outside_eq

theorem State.Event.pending_eq {s t : State} (h : s.Event t) : t.pending = s.pending := by
  cases h with
  | works _ h => exact h.pending_eq
  | command u kind a _ h => exact h.pending_eq
  | _ => rfl

/-- Settles O2: every row goes on with one of the part's events, and none of them holds a waiting event. -/
theorem everyEventCompletes : Obligations.EveryEventCompletes := by
  unfold Obligations.EveryEventCompletes
  intro i s
  obtain ⟨t, hexec, hevent⟩ := exec_event i s
  exact ⟨t, hexec, hevent.pending_eq⟩

/-- Settles O1: a step is `exec` of the front event. -/
theorem stepRunsFrontEvent : Obligations.StepRunsFrontEvent := by
  unfold Obligations.StepRunsFrontEvent
  refine ⟨fun c rest s => rfl, fun s hempty => ?_⟩
  unfold step
  rw [hempty]

/-! ## Invariants of a step -/

/-- What reads nothing of the waiting events and every event keeps, a step keeps. -/
theorem step_keeps {Q : State → Prop} (hpending : ∀ s rest, Q s → Q { s with pending := rest })
    (hevent : ∀ s t : State, s.Event t → Q s → Q t) {s t : State} (hs : Q s) (hstep : step s = .next t) : Q t := by
  unfold step at hstep
  split at hstep
  · cases hstep
    exact hs
  · rename_i i rest _
    obtain ⟨u, hexec, hu⟩ := exec_event i { s with pending := rest }
    rw [hexec] at hstep
    cases hstep
    exact hevent _ _ hu (hpending _ _ hs)

end Sys2Proof.Machine

/-! PROOF. The notice store through every event: what its moves keep, the transmitter with its line and reply buffer, the READING
notices, ATTN and the priority numbers (R137 to R147). -/

namespace Sys2Proof.Machine

open Relation (ReflTransGen)

/-! ## The store's moves -/

/-- What the part's work does to the store: a withdrawal, a notice queued, the readings setting. -/
inductive NoticeStore.Move : NoticeStore → NoticeStore → Prop
  | withdraw (st : NoticeStore) (f : Notice → Bool) : NoticeStore.Move st (st.withdraw f).1
  | take (st : NoticeStore) (n : Notice) (p : Nat) (fits : Entry.priorityFits ⟨n, p, .waiting⟩ = true) :
      NoticeStore.Move st (st.take n p).1
  | readings (st : NoticeStore) (b : Bool) : NoticeStore.Move st { st with readings := b }

/-- Moves of the store made one after the other. -/
abbrev NoticeStore.Moves : NoticeStore → NoticeStore → Prop := ReflTransGen NoticeStore.Move

/-- Every move keeps the reply buffer. -/
theorem NoticeStore.Moves.reply_eq {st u : NoticeStore} (h : st.Moves u) : u.reply = st.reply := by
  induction h with
  | refl => rfl
  | tail _ hstep ih =>
    rw [← ih]
    cases hstep with
    | withdraw => rfl
    | take => exact NoticeStore.take_reply _ _ _
    | readings => rfl

theorem NoticeStore.Moves.queueNotice {st : NoticeStore} {s : State} (h : st.Moves s.store) {n : Notice} {p : Nat}
    (fits : Entry.priorityFits ⟨n, p, .waiting⟩ = true) : st.Moves (s.queueNotice n p).store := by
  rw [State.queueNotice_store]
  exact h.tail (.take _ n p fits)

theorem State.raise_moves (s : State) (c : Condition) : s.store.Moves (s.raise c).store := by
  rcases s.raise_store_cases c with h | h <;> rw [h]
  exact .single (.take _ _ 4 rfl)

theorem State.enterEmpty_moves (s : State) (p : Nat) (x : PosState) : s.store.Moves (s.enterEmpty p x).store :=
  .single (.withdraw _ _)

theorem State.returnCandidate_moves (s : State) (o : Option Offer) : s.store.Moves (s.returnCandidate o).store := by
  cases o with
  | none => exact .refl
  | some f =>
    unfold State.returnCandidate State.appendCandidate
    dsimp only
    split
    · exact .refl
    · exact s.raise_moves _

theorem State.AlarmMove.store_moves {s t : State} (h : ReflTransGen State.AlarmMove s t) : s.store.Moves t.store := by
  induction h with
  | refl => exact .refl
  | tail _ hstep ih =>
    refine ih.trans ?_
    cases hstep with
    | notice n p fits => exact NoticeStore.Moves.queueNotice .refl fits
    | withdraw f => exact .single (.withdraw _ f)
    | setAlarm => exact .refl
    | missing => exact .refl

theorem State.tellArrival_moves (s : State) (p : Nat) (ch : Channel) : s.store.Moves (s.tellArrival p ch).store := by
  unfold State.tellArrival
  dsimp only
  split
  · refine NoticeStore.Moves.queueNotice ?_ (by rfl)
    exact .refl
  · exact .refl

theorem State.accept_moves (s : State) (t : Telegram) (slot : Nat) (ch : Channel) :
    s.store.Moves (s.accept t slot ch).store := by
  have htell := State.tellArrival_moves
    { s with queue := s.queue ++ [⟨t, slot, ch, s.seq.frameNumber⟩], link := s.link.mark t slot } (slot - 1) ch
  unfold State.accept
  rw [State.runEngine_eq]
  dsimp only
  split
  · exact htell
  · exact .refl

/-- A fold of operations that move the store moves the store. -/
theorem foldl_store_moves {α : Type} {f : State → α → State} (h : ∀ (t : State) (a : α), t.store.Moves (f t a).store) (l : List α) (s : State) :
    s.store.Moves (l.foldl f s).store := by
  induction l generalizing s with
  | nil => exact .refl
  | cons a l ih => exact (h s a).trans (ih _)

theorem State.failBinding_moves (s : State) (p : Nat) : s.store.Moves (s.failBinding p).store := by
  unfold State.failBinding
  split
  · exact NoticeStore.Moves.queueNotice (s.enterEmpty_moves p .vacant) (by rfl)
  · exact .refl

theorem State.joinToConfig_moves (s : State) : s.store.Moves s.joinToConfig.store := by
  unfold State.joinToConfig
  rw [State.setReoffers_store, State.setCandidates_store]
  exact foldl_store_moves State.failBinding_moves allPositions s

theorem State.changeToConfig_moves (s : State) : s.store.Moves s.changeToConfig.store := by
  have hwithdraw : s.store.Moves s.configTable.store := .single (.withdraw _ _)
  have hnotice : ∀ t : State, s.store.Moves t.store → s.store.Moves ((t.halted.enterMode .config).noticeMode .config).store :=
    fun t ht => NoticeStore.Moves.queueNotice (s := t.halted.enterMode .config) ht (by rfl)
  rw [State.changeToConfig_eq]
  exact hnotice _ (hwithdraw.trans s.configTable.joinToConfig_moves)

theorem State.fit_moves (s : State) (p : Nat) : s.store.Moves (s.fit p).store := by
  unfold State.fit
  split_ifs
  · exact s.enterEmpty_moves p .vacant
  · exact .refl
  · exact .refl
  · exact s.enterEmpty_moves p .absent

/-- A change of the records moves the store. -/
theorem State.RecordMove.store_moves {s t : State} (h : s.RecordMove t) : s.store.Moves t.store := by
  cases h with
  | notice n p fits => exact NoticeStore.Moves.queueNotice .refl fits
  | raise c => exact s.raise_moves c
  | alarms t moves => have h := State.AlarmMove.store_moves moves; exact h
  | vacate p => exact s.enterEmpty_moves p .vacant
  | release p => exact (s.enterEmpty_moves p .vacant).trans (State.returnCandidate_moves _ _)
  | expireOffer p =>
    refine (NoticeStore.Moves.queueNotice (s.enterEmpty_moves p .vacant) ?_).trans (State.returnCandidate_moves _ _)
    rfl
  | reoffer id => rw [State.reoffer_eq]; exact .refl
  | countOffer => rw [State.countOffer_eq]
  | accept => exact s.accept_moves _ _ _
  | runEngine => rw [State.runEngine_eq]
  | finish => rw [State.finish_eq]
  | _ => exact .refl

/-- The part's work moves the store. -/
theorem State.Does.store_moves {s t : State} (h : s.Does t) : s.store.Moves t.store := by
  cases h with
  | records _ move => exact move.store_moves
  | changeMode m =>
    have h := NoticeStore.Moves.queueNotice (s := s.emptyWindows.enterMode m) (n := .mode m .command) (p := 1) .refl rfl
    exact h
  | toConfig => exact s.changeToConfig_moves
  | axle a entry => exact foldl_store_moves State.fit_moves (axlePositions a) { s with axles := s.axles.set (a - 1) entry }
  | readings b => exact .single (.readings _ b)
  | _ => exact .refl

theorem State.Works.store_moves {s t : State} (h : s.Works t) : s.store.Moves t.store := by
  induction h with
  | refl => exact .refl
  | tail _ hstep ih => exact ih.trans hstep.store_moves

/-! ## The SENDING entries (R137, R145) -/

theorem filter_sending_filter {p : Entry → Bool} (h : ∀ e, e.waits = false → p e = true) (es : List Entry) :
    (es.filter p).filter (fun e => !e.waits) = es.filter (fun e => !e.waits) := by
  rw [List.filter_filter]
  refine List.filter_congr fun e _ => ?_
  cases hw : e.waits with
  | true => rfl
  | false => simp [h e hw]

theorem filter_sending_removeYoungest {es : List Entry} {p : Nat} (h : ∃ e ∈ es, e.waits = true ∧ e.priority = p) :
    (removeYoungest p es).filter (fun e => !e.waits) = es.filter (fun e => !e.waits) := by
  obtain ⟨older, e, younger, hes, hw, _, _, hrem⟩ := removeYoungest_split h
  rw [hrem, hes]
  simp [hw]

/-- What a queued notice leaves in the store before it enters: entries that hold every SENDING one. -/
theorem NoticeStore.take_shape (st : NoticeStore) (n : Notice) (p : Nat) : ∃ kept : List Entry,
    kept.Sublist (st.entries.filter (fun e => !n.replaces e)) ∧
      kept.filter (fun e => !e.waits) = st.entries.filter (fun e => !e.waits) ∧
      ((st.take n p).1 = (st.withEntries kept).enter n p ∨ (st.take n p).1 = st.withEntries kept) := by
  have hsend := filter_sending_filter (p := fun e => !n.replaces e) (fun e hw => by simp [Notice.replaces_of_sending hw]) st.entries
  rcases st.take_cases n p with ⟨_, h⟩ | ⟨_, hlt, h⟩ | ⟨_, _, h⟩ <;> rw [h]
  · exact ⟨_, .refl _, hsend, .inl rfl⟩
  · refine ⟨_, removeYoungest_sublist _ _, ?_, .inl rfl⟩
    rw [filter_sending_removeYoungest (worstWaiting_mem (Nat.zero_lt_of_lt hlt)), hsend]
  · exact ⟨_, .refl _, hsend, .inr rfl⟩

/-! ## The transmitter (R144, R145) -/

/-- The transmitter, the buffer, the SENDING entry and the line belong together, a command perhaps being at work. `low` is the
level of RESET, under which a notice may wait for the release (R171). -/
def NoticeStore.Sound (low : Bool) (st : NoticeStore) : Prop :=
  match st.transmitter with
  | .idle => (∀ r, st.reply ≠ .holding r) ∧ st.sendingEntries = [] ∧ st.txd = [] ∧
      (low = true ∨ st.reply = .forming ∨ st.entries = [])
  | .sendingReply => st.sendingEntries = [] ∧ ∃ r, st.reply = .holding r ∧ st.txd = r.frame
  | .sendingNotice => ∃ e, st.sendingEntries = [e] ∧ st.txd = e.notice.frame

theorem State.transmitterSound_iff (s : State) :
    s.TransmitterSound ↔ s.store.Sound s.resetLow ∧ s.store.reply ≠ .forming := by
  unfold State.TransmitterSound NoticeStore.Sound
  cases s.store.transmitter with
  | idle => cases s.store.reply <;> simp
  | sendingReply =>
    constructor
    · rintro ⟨hsend, r, hr, ht⟩
      exact ⟨⟨hsend, r, hr, ht⟩, by simp [hr]⟩
    · exact fun h => h.1
  | sendingNotice => exact and_comm

/-- A choice made with no entry SENDING is sound (R145). -/
theorem NoticeStore.choose_sound {st : NoticeStore} (h : st.sendingEntries = []) (low : Bool) : st.choose.Sound low := by
  rcases st.choose_cases with ⟨r, hr, hc⟩ | ⟨_, e, hn, hc⟩ | ⟨hno, hn, hc⟩ <;> rw [hc]
  · exact ⟨h, r, hr, rfl⟩
  · obtain ⟨older, younger, hes, hw, _, _, hmark⟩ := nextWaiting_split hn
    have hsplit : older.filter (fun e => !e.waits) = [] ∧ younger.filter (fun e => !e.waits) = [] := by
      simpa [NoticeStore.sendingEntries, hes, hw] using h
    refine ⟨{ e with state := .sending }, ?_, rfl⟩
    simp only [NoticeStore.sendingEntries, hmark, List.filter_append, List.filter_cons, hsplit.1, hsplit.2]
    rfl
  · refine ⟨hno, h, rfl, .inr (.inr ?_)⟩
    have hall := nextWaiting_eq_none.mp hn
    refine List.eq_nil_iff_forall_not_mem.mpr fun e he => ?_
    have hmem : e ∈ st.sendingEntries := List.mem_filter.mpr ⟨he, by simp [hall e he]⟩
    rw [h] at hmem
    exact List.not_mem_nil hmem

/-- Entries may go while the SENDING ones stay. -/
theorem NoticeStore.withEntries_sound {st : NoticeStore} {low : Bool} (h : st.Sound low) {es : List Entry}
    (hsend : es.filter (fun e => !e.waits) = st.sendingEntries) (hempty : st.entries = [] → es = []) :
    (st.withEntries es).Sound low := by
  have hsend' : (st.withEntries es).sendingEntries = st.sendingEntries := hsend
  unfold NoticeStore.Sound at h ⊢
  rw [hsend']
  cases ht : st.transmitter with
  | idle =>
    simp only [ht, NoticeStore.withEntries_transmitter, NoticeStore.withEntries_reply, NoticeStore.withEntries_txd,
      NoticeStore.withEntries_entries] at h ⊢
    obtain ⟨hno, hs, htxd, hrest⟩ := h
    exact ⟨hno, hs, htxd, hrest.imp_right (Or.imp_right hempty)⟩
  | sendingReply => simpa [ht] using h
  | sendingNotice => simpa [ht] using h

/-- A notice that enters finds the transmitter sound and leaves it so (R141). -/
theorem NoticeStore.enter_sound {st : NoticeStore} {low : Bool} (h : st.Sound low) (n : Notice) (p : Nat) :
    (st.enter n p).Sound low := by
  have hsend : (st.entries ++ [(⟨n, p, .waiting⟩ : Entry)]).filter (fun e => !e.waits) = st.sendingEntries := by
    simp [NoticeStore.sendingEntries, Entry.waits]
  rcases st.enter_cases n p with ⟨hi, hr, hc⟩ | ⟨hbusy, hc⟩ <;> rw [hc]
  · refine NoticeStore.choose_sound ?_ low
    refine hsend.trans ?_
    unfold NoticeStore.Sound at h
    rw [hi] at h
    exact h.2.1
  · have hsend' : (st.withEntries (st.entries ++ [⟨n, p, .waiting⟩])).sendingEntries = st.sendingEntries := hsend
    unfold NoticeStore.Sound at h ⊢
    rw [hsend']
    cases ht : st.transmitter with
    | idle =>
      simp only [ht, NoticeStore.withEntries_transmitter, NoticeStore.withEntries_reply, NoticeStore.withEntries_txd] at h ⊢
      obtain ⟨hno, hs, htxd, _⟩ := h
      refine ⟨hno, hs, htxd, .inr (.inl ?_)⟩
      cases hr : st.reply with
      | empty => exact absurd ⟨ht, hr⟩ hbusy
      | forming => rfl
      | holding r => exact absurd hr (hno r)
    | sendingReply => simpa [ht] using h
    | sendingNotice => simpa [ht] using h

theorem NoticeStore.Move.sound {st u : NoticeStore} (hmove : st.Move u) {low : Bool} (h : st.Sound low) : u.Sound low := by
  cases hmove with
  | withdraw f =>
    exact NoticeStore.withEntries_sound h (filter_sending_filter (fun e hw => by simp [hw]) _) (fun he => by simp [he])
  | take n p =>
    obtain ⟨kept, hsub, hsend, hshape⟩ := st.take_shape n p
    have hkept : (st.withEntries kept).Sound low :=
      NoticeStore.withEntries_sound h hsend (fun he => by simpa [he] using hsub)
    rcases hshape with hc | hc <;> rw [hc]
    · exact NoticeStore.enter_sound hkept n p
    · exact hkept
  | readings => exact h

theorem NoticeStore.Moves.sound {st u : NoticeStore} (hmoves : st.Moves u) {low : Bool} (h : st.Sound low) : u.Sound low := by
  induction hmoves with
  | refl => exact h
  | tail _ hstep ih => exact hstep.sound ih

/-- The answer to a command at work enters the buffer of a sound store (R144). -/
theorem NoticeStore.replied_sound {st : NoticeStore} {low : Bool} (h : st.Sound low) (hforming : st.reply = .forming)
    (kind : Byte) (a : Answer) : (st.replied kind a).Sound low := by
  unfold NoticeStore.Sound at h
  unfold NoticeStore.replied NoticeStore.Sound
  cases ht : st.transmitter with
  | idle =>
    rw [ht] at h
    exact ⟨h.2.1, ⟨kind, a⟩, rfl, rfl⟩
  | sendingReply =>
    rw [ht] at h
    obtain ⟨_, r, hr, _⟩ := h
    exact absurd (hforming.symm.trans hr) (by simp)
  | sendingNotice =>
    rw [ht] at h
    exact h

/-- The place freed at a boundary leaves no entry SENDING (R146). -/
theorem NoticeStore.boundary_sound {st : NoticeStore} {low : Bool} (h : st.Sound low) : st.boundary.Sound low := by
  unfold NoticeStore.boundary
  cases ht : st.transmitter with
  | idle => exact h
  | sendingReply =>
    unfold NoticeStore.Sound at h
    rw [ht] at h
    refine NoticeStore.choose_sound ?_ low
    exact h.1
  | sendingNotice =>
    refine NoticeStore.choose_sound ?_ low
    simp [NoticeStore.sendingEntries, List.filter_filter]

theorem NoticeStore.boundary_reply {st : NoticeStore} (h : st.reply ≠ .forming) : st.boundary.reply ≠ .forming := by
  unfold NoticeStore.boundary
  cases st.transmitter with
  | idle => exact h
  | sendingReply => simp
  | sendingNotice => simpa using h

theorem NoticeStore.warm_eq (st : NoticeStore) : st.warm =
    { st with entries := [⟨.mode .config .warmRestart, 1, .sending⟩], reply := .empty, transmitter := .sendingNotice
              txd := Notice.frame (.mode .config .warmRestart), attn := true } :=
  NoticeStore.enter_empty rfl rfl rfl _ _

/-- At the release a sound store stays sound: what waited is chosen (R171). -/
theorem NoticeStore.chooseIfIdle_sound {st : NoticeStore} {low : Bool} (h : st.Sound low) (hr : st.reply ≠ .forming) :
    st.chooseIfIdle.Sound false := by
  unfold NoticeStore.chooseIfIdle
  unfold NoticeStore.Sound at h
  split
  · rename_i hfree
    rw [hfree.1] at h
    exact NoticeStore.choose_sound h.2.1 false
  · rename_i hbusy
    unfold NoticeStore.Sound
    cases ht : st.transmitter with
    | idle =>
      rw [ht] at h
      cases hreply : st.reply with
      | empty => exact absurd ⟨ht, hreply⟩ hbusy
      | forming => exact absurd hreply hr
      | holding r => exact absurd hreply (h.1 r)
    | sendingReply => simpa only [ht] using h
    | sendingNotice => simpa only [ht] using h

theorem NoticeStore.chooseIfIdle_reply (st : NoticeStore) : st.chooseIfIdle.reply = st.reply := by
  unfold NoticeStore.chooseIfIdle
  split <;> simp

/-- Every event keeps the transmitter sound and the reply buffer out of `forming`. -/
theorem State.Event.transmitterSound {s t : State} (hevent : s.Event t) (h : s.TransmitterSound) : t.TransmitterSound := by
  rw [State.transmitterSound_iff] at h ⊢
  obtain ⟨hsound, hreply⟩ := h
  cases hevent with
  | works _ hworks =>
    rw [hworks.resetLow_eq, hworks.store_moves.reply_eq]
    exact ⟨hworks.store_moves.sound hsound, hreply⟩
  | command u kind a ready hworks =>
    have htaking : s.taking.store.Sound s.resetLow := by
      obtain ⟨_, hempty⟩ := ready
      unfold NoticeStore.Sound at hsound
      unfold State.taking NoticeStore.Sound
      cases ht : s.store.transmitter with
      | idle => rw [ht] at hsound; exact ⟨by simp, hsound.2.1, hsound.2.2.1, .inr (.inl rfl)⟩
      | sendingReply =>
        rw [ht] at hsound
        obtain ⟨_, r, hr, _⟩ := hsound
        exact absurd (hempty.symm.trans hr) (by simp)
      | sendingNotice => rw [ht] at hsound; exact hsound
    have hforming : u.store.reply = .forming := hworks.store_moves.reply_eq
    have hlow : u.resetLow = s.resetLow := hworks.resetLow_eq
    rw [State.reply_eq]
    refine ⟨?_, by simp [NoticeStore.replied]⟩
    have := hworks.store_moves.sound htaking
    exact NoticeStore.replied_sound (low := u.resetLow) (hlow ▸ this) hforming kind a
  | boundary => exact ⟨NoticeStore.boundary_sound hsound, NoticeStore.boundary_reply hreply⟩
  | warmRestart =>
    change s.store.warm.Sound s.resetLow ∧ s.store.warm.reply ≠ .forming
    rw [NoticeStore.warm_eq]
    exact ⟨⟨_, rfl, rfl⟩, by simp⟩
  | coldReset => exact ⟨⟨nofun, rfl, rfl, .inl rfl⟩, nofun⟩
  | release =>
    exact ⟨NoticeStore.chooseIfIdle_sound hsound hreply, by rw [NoticeStore.chooseIfIdle_reply]; exact hreply⟩

/-- Settles O54: the store's moves keep the transmitter sound, and so do the reply, the boundary and the resets. -/
theorem stepKeepsTransmitter : Obligations.StepKeepsTransmitter := by
  unfold Obligations.StepKeepsTransmitter
  intro s t hs hstep
  exact step_keeps (Q := State.TransmitterSound) (fun _ _ h => h) (fun _ _ => State.Event.transmitterSound) hs hstep

end Sys2Proof.Machine

/-! PROOF. The queue of an idle engine, the READING notices, LAMP and ATTN through every event (R67, R123, R137, R147). -/

namespace Sys2Proof.Machine

open Relation (ReflTransGen)

/-! ## The engine and its queue (R67) -/

theorem Engine.voidFor_idle_iff (e : Engine) (p : Nat) : e.voidFor p = .idle ↔ e = .idle := by
  cases e with
  | idle => simp [Engine.voidFor]
  | busy w => simp only [Engine.voidFor]; split <;> simp

theorem Engine.markHistory_idle_iff (e : Engine) : e.markHistory = .idle ↔ e = .idle := by
  cases e <;> simp [Engine.markHistory]

/-- An engine that takes entries starts on one or empties the queue (R67, R68). -/
theorem State.takeFrom_eager (s : State) (es : List QueueEntry) : (s.takeFrom es).EngineEager := by
  induction es with
  | nil => exact fun _ => rfl
  | cons e es ih =>
    unfold State.takeFrom
    split
    · exact fun h => Engine.noConfusion h
    · exact ih

theorem State.runEngine_eager (s : State) : s.runEngine.EngineEager := by
  unfold State.runEngine
  split
  · exact s.takeFrom_eager s.queue
  · rename_i w hw
    intro h
    rw [hw] at h
    cases h

/-- What leaves the queue and does not make a busy engine idle keeps the engine eager. -/
theorem State.EngineEager.congr {s t : State} (h : s.EngineEager) (hq : t.queue = s.queue)
    (he : t.engine = .idle → s.engine = .idle) : t.EngineEager :=
  fun hidle => hq.trans (h (he hidle))

theorem State.RecordMove.eager {s t : State} (hmove : s.RecordMove t) (h : s.EngineEager) : t.EngineEager := by
  have voided : ∀ p, (s.engine.voidFor p = .idle → s.engine = .idle) := fun p => (Engine.voidFor_idle_iff _ p).mp
  cases hmove with
  | notice => exact h.congr (by simp) (by simp)
  | raise => exact h.congr (by simp) (by simp)
  | alarms t moves => rw [State.AlarmMove.eq moves]; exact h
  | vacate p => exact h.congr rfl (voided p)
  | release p => exact h.congr (by simp) (by simpa using voided p)
  | expireOffer p => exact h.congr (by simp [State.expireOffer]) (by simpa [State.expireOffer] using voided p)
  | reoffer id => rw [State.reoffer_eq]; exact h
  | countOffer => rw [State.countOffer_eq]; exact h
  | accept => exact State.runEngine_eager _
  | runEngine => exact State.runEngine_eager _
  | finish => exact State.runEngine_eager _
  | _ => exact h

theorem State.Does.eager {s t : State} (hdoes : s.Does t) (h : s.EngineEager) : t.EngineEager := by
  have marked : s.engine.markHistory = .idle → s.engine = .idle := (Engine.markHistory_idle_iff _).mp
  cases hdoes with
  | records _ move => exact move.eager h
  | leaveConfig m => exact h.congr rfl marked
  | changeMode m => rw [State.noticeMode, State.queueNotice_eq]; exact h.congr rfl marked
  | toConfig =>
    refine fun _ => ?_
    rw [State.changeToConfig_eq, State.noticeMode, State.queueNotice_queue]
    rfl
  | axle a entry =>
    refine foldl_keeps State.EngineEager State.fit (axlePositions a) (fun t p _ ht => ?_) { s with axles := s.axles.set (a - 1) entry } h
    unfold State.fit
    split_ifs
    · exact ht.congr rfl (Engine.voidFor_idle_iff _ p).mp
    · exact ht
    · exact ht
    · exact ht.congr rfl (Engine.voidFor_idle_iff _ p).mp
  | _ => exact h

theorem State.Works.eager {s t : State} (hworks : s.Works t) (h : s.EngineEager) : t.EngineEager := by
  induction hworks with
  | refl => exact h
  | tail _ hstep ih => exact hstep.eager ih

theorem State.Event.eager {s t : State} (hevent : s.Event t) (h : s.EngineEager) : t.EngineEager := by
  cases hevent with
  | works _ hworks => exact hworks.eager h
  | command u kind a _ hworks => exact hworks.eager h
  | boundary => exact h
  | warmRestart => exact fun _ => rfl
  | coldReset => exact fun _ => rfl
  | release => exact h

/-! ## Laws of the entries -/

/-- A law of the store's entries that thinning, marking the one to send and a notice that enters all keep. -/
structure EntriesLaw (P : List Entry → Prop) : Prop where
  thin : ∀ {es kept : List Entry}, kept.Sublist es → P es → P kept
  mark : ∀ {es : List Entry} {e : Entry}, nextWaiting es = some e → P es → P (markSending e.priority es)
  enter : ∀ {es : List Entry} {n : Notice} {p : Nat}, P es → (∀ e ∈ es, n.replaces e = false) →
    Entry.priorityFits ⟨n, p, .waiting⟩ = true → P (es ++ [⟨n, p, .waiting⟩])

section
variable {P : List Entry → Prop} (law : EntriesLaw P)
include law

theorem EntriesLaw.choose {st : NoticeStore} (h : P st.entries) : P st.choose.entries := by
  rcases st.choose_cases with ⟨r, _, hc⟩ | ⟨_, e, hn, hc⟩ | ⟨_, _, hc⟩ <;> rw [hc]
  · exact h
  · exact law.mark hn h
  · exact h

theorem EntriesLaw.move {st u : NoticeStore} (hmove : st.Move u) (h : P st.entries) : P u.entries := by
  cases hmove with
  | withdraw f => exact law.thin List.filter_sublist h
  | take n p fits =>
    obtain ⟨kept, hsub, _, hshape⟩ := st.take_shape n p
    have hkept : P kept := law.thin (hsub.trans List.filter_sublist) h
    have hnone : ∀ e ∈ kept, n.replaces e = false := fun e he => by
      simpa using (List.mem_filter.mp (hsub.subset he)).2
    rcases hshape with hc | hc <;> rw [hc]
    · rcases (st.withEntries kept).enter_cases n p with ⟨_, _, hc⟩ | ⟨_, hc⟩ <;> rw [hc]
      · exact law.choose (law.enter hkept hnone fits)
      · exact law.enter hkept hnone fits
    · exact hkept
  | readings => exact h

theorem EntriesLaw.moves {st u : NoticeStore} (hmoves : st.Moves u) (h : P st.entries) : P u.entries := by
  induction hmoves with
  | refl => exact h
  | tail _ hstep ih => exact law.move hstep ih

/-- A law that the entries after a reset meet holds after every event. -/
theorem EntriesLaw.event (hcold : P [⟨coldResetNotice, 1, .waiting⟩]) (hwarm : P [⟨.mode .config .warmRestart, 1, .sending⟩])
    {s t : State} (hevent : s.Event t) (h : P s.store.entries) : P t.store.entries := by
  cases hevent with
  | works _ hworks => exact law.moves hworks.store_moves h
  | command u kind a _ hworks =>
    rw [State.reply_eq]
    have hmoved := law.moves (st := s.taking.store) hworks.store_moves h
    exact hmoved
  | boundary =>
    change P s.store.boundary.entries
    unfold NoticeStore.boundary
    split
    · exact h
    · exact law.choose h
    · exact law.choose (law.thin List.filter_sublist h)
  | warmRestart =>
    change P s.store.warm.entries
    rw [NoticeStore.warm_eq]
    exact hwarm
  | coldReset => exact hcold
  | release =>
    change P s.store.chooseIfIdle.entries
    unfold NoticeStore.chooseIfIdle
    split
    · exact law.choose h
    · exact h

end

/-! ## READING notices (R137, R139) -/

/-- No two waiting READING notices for one position (R137). -/
def singleReadings (es : List Entry) : Prop :=
  es.Pairwise (fun a b => ¬(a.waits = true ∧ b.waits = true ∧ a.notice.replaces b = true))

/-- A waiting READING notice that a new entry would replace is one that would be replaced by the entry's notice. -/
theorem Notice.replaces_symm {e : Entry} {n : Notice} {p : Nat} (hw : e.waits = true)
    (h : e.notice.replaces ⟨n, p, .waiting⟩ = true) : n.replaces e = true := by
  unfold Notice.replaces at h ⊢
  split at h
  · rename_i hold hnew
    simp only [Bool.and_eq_true, beq_iff_eq] at h
    rw [show n = _ from hnew, hold]
    simp [hw, h.2]
  · cases h

theorem singleReadings_law : EntriesLaw singleReadings where
  thin hsub h := List.Pairwise.sublist hsub h
  mark hn h := by
    obtain ⟨older, younger, hes, _, _, _, hmark⟩ := nextWaiting_split hn
    rw [hmark]
    rw [hes] at h
    obtain ⟨hold, hrest, hcross⟩ := List.pairwise_append.mp h
    obtain ⟨_, hyoung⟩ := List.pairwise_cons.mp hrest
    refine List.pairwise_append.mpr ⟨hold, List.pairwise_cons.mpr ⟨fun b _ hb => Bool.false_ne_true hb.1, hyoung⟩, ?_⟩
    intro a ha b hb
    rcases List.mem_cons.mp hb with rfl | hb
    · exact fun h => Bool.false_ne_true h.2.1
    · exact hcross a ha b (List.mem_cons_of_mem _ hb)
  enter h hnone _ := by
    refine List.pairwise_append.mpr ⟨h, List.pairwise_singleton _ _, fun a ha b hb hab => ?_⟩
    rw [List.mem_singleton] at hb
    subst hb
    exact Bool.false_ne_true ((hnone a ha).symm.trans (Notice.replaces_symm hab.1 hab.2.2))

/-- Settles O59: the engine's operations leave it eager, and the entries of one READING notice per position are a law of the
store. -/
theorem stepKeepsQueueAndReadings : Obligations.StepKeepsQueueAndReadings := by
  unfold Obligations.StepKeepsQueueAndReadings
  refine ⟨fun s t hs hstep => ?eager, fun s t hs hstep => ?readings⟩
  case eager => exact step_keeps (Q := State.EngineEager) (fun _ _ h => h) (fun _ _ => State.Event.eager) hs hstep
  case readings =>
    exact step_keeps (Q := State.ReadingsSingle) (fun _ _ h => h)
      (fun _ _ => singleReadings_law.event (List.pairwise_singleton _ _) (List.pairwise_singleton _ _)) hs hstep

/-! ## ATTN (R147) -/

/-- ATTN follows the entries (R147). -/
def NoticeStore.attends (st : NoticeStore) : Prop := st.attn = !st.entries.isEmpty

theorem NoticeStore.Moves.attends {st u : NoticeStore} (hmoves : st.Moves u) (h : st.attends) : u.attends := by
  induction hmoves with
  | refl => exact h
  | tail _ hstep ih =>
    cases hstep with
    | withdraw => rfl
    | take => exact NoticeStore.take_attn _ _ _
    | readings => exact ih

theorem NoticeStore.choose_attends {st : NoticeStore} (h : st.attends) : st.choose.attends := by
  unfold NoticeStore.attends
  rw [NoticeStore.choose_attn, NoticeStore.choose_entries_isEmpty]
  exact h

theorem State.Event.attends {s t : State} (hevent : s.Event t) (h : s.store.attends) : t.store.attends := by
  cases hevent with
  | works _ hworks => exact hworks.store_moves.attends h
  | command u kind a _ hworks =>
    rw [State.reply_eq]
    exact hworks.store_moves.attends (st := s.taking.store) h
  | boundary =>
    change s.store.boundary.attends
    unfold NoticeStore.boundary
    split
    · exact h
    · exact NoticeStore.choose_attends h
    · exact NoticeStore.choose_attends rfl
  | warmRestart =>
    change s.store.warm.attends
    rw [NoticeStore.warm_eq]
    rfl
  | coldReset => rfl
  | release =>
    change s.store.chooseIfIdle.attends
    unfold NoticeStore.chooseIfIdle
    split
    · exact NoticeStore.choose_attends h
    · exact h

/-! ## LAMP (R123) -/

/-- LAMP is what its rule says. -/
def State.LampTrue (s : State) : Prop := s.lamp = s.lampRule

/-- The rule of LAMP reads the mode, HOST_SILENT, the kind settings and the sub-records alone (R123). -/
theorem State.lampRule_congr {s t : State} (hmode : t.modes.mode = s.modes.mode) (hsilent : t.port.hostSilent = s.port.hostSilent)
    (hkinds : t.kinds = s.kinds) (halarms : t.positions.map Position.alarms = s.positions.map Position.alarms) :
    t.lampRule = s.lampRule := by
  have key : ∀ rs : List Position, rs.any (Position.lights s.kinds) =
      (rs.map Position.alarms).any (fun a => Kind.all.any (fun k =>
        (s.kinds.get k).cls == 2 && ((a.get k).active || (a.get k).pending))) :=
    fun rs => by rw [List.any_map]; rfl
  unfold State.lampRule
  rw [hmode, hsilent, hkinds, key, key, halarms]

theorem State.LampTrue.congr {s t : State} (h : s.LampTrue) (hlamp : t.lamp = s.lamp) (hmode : t.modes.mode = s.modes.mode)
    (hsilent : t.port.hostSilent = s.port.hostSilent) (hkinds : t.kinds = s.kinds)
    (halarms : t.positions.map Position.alarms = s.positions.map Position.alarms) : t.LampTrue := by
  unfold State.LampTrue
  rw [hlamp, State.lampRule_congr hmode hsilent hkinds halarms]
  exact h

/-- A record replaced by one with the same value of a field keeps that field's column of the table. -/
theorem State.setPos_map_field {α : Type} (g : Position → α) (s : State) (p : Nat) {r : Position} (h : g r = g (s.pos p)) :
    (s.setPos p r).positions.map g = s.positions.map g := by
  rw [State.setPos_positions]
  refine List.ext_getElem (by simp) fun i h1 h2 => ?_
  simp only [List.getElem_map, List.getElem_set]
  split
  · rename_i hi
    subst hi
    have hp : p < s.positions.length := by simpa using h2
    rw [h]
    simp [State.pos, List.getD_eq_getElem?_getD, hp]
  · rfl

/-- A map over the table that keeps a field keeps that field's column. -/
theorem map_map_field {α : Type} (g : Position → α) (f : Position → Position) (h : ∀ r, g (f r) = g r) (rs : List Position) :
    (rs.map f).map g = rs.map g := by
  rw [List.map_map]
  exact List.map_congr_left fun r _ => h r

theorem Position.countLearn_alarms (r : Position) : r.countLearn.alarms = r.alarms := by
  unfold Position.countLearn
  split <;> rfl

theorem Position.reenter_alarms (f : FrameNo) (r : Position) : (Position.reenter f r).alarms = r.alarms := by
  unfold Position.reenter
  split <;> rfl

theorem Position.heard_alarms (r : Position) (f : FrameNo) (ch : Channel) : (r.heard f ch).alarms = r.alarms := by
  unfold Position.heard
  dsimp only
  split <;> rfl

theorem State.countOffer_alarms (s : State) (o : OfferEntry) :
    (s.countOffer o).positions.map Position.alarms = s.positions.map Position.alarms := by
  unfold State.countOffer
  dsimp only
  split
  · split
    · exact s.setPos_map_field Position.alarms _ rfl
    · rfl
  · rfl

theorem State.tellArrival_alarms (s : State) (p : Nat) (ch : Channel) :
    (s.tellArrival p ch).positions.map Position.alarms = s.positions.map Position.alarms := by
  rw [State.tellArrival_eq]
  exact s.setPos_map_field Position.alarms p (Position.heard_alarms _ _ _)

theorem State.accept_alarms (s : State) (t : Telegram) (slot : Nat) (ch : Channel) :
    (s.accept t slot ch).positions.map Position.alarms = s.positions.map Position.alarms := by
  have htell := State.tellArrival_alarms
    { s with queue := s.queue ++ [⟨t, slot, ch, s.seq.frameNumber⟩], link := s.link.mark t slot } (slot - 1) ch
  unfold State.accept
  rw [State.runEngine_eq]
  dsimp only
  split
  · exact htell
  · rfl

theorem State.judgeLamp_lampTrue (s : State) : s.judgeLamp.LampTrue := rfl

theorem State.LampTrue.queueNotice {s : State} (h : s.LampTrue) (n : Notice) (p : Nat) : (s.queueNotice n p).LampTrue :=
  h.congr (by simp) (by simp) (by simp) (by simp) (by simp)

theorem State.LampTrue.returnCandidate {s : State} (h : s.LampTrue) (o : Option Offer) : (s.returnCandidate o).LampTrue := by
  rw [State.returnCandidate_eq]
  exact h

theorem State.RecordMove.lampTrue {s t : State} (hmove : s.RecordMove t) (h : s.LampTrue) : t.LampTrue := by
  cases hmove with
  | notice n p => exact h.queueNotice n p
  | raise c => exact h.congr (by simp) (by simp) (by simp) (by simp) (by simp)
  | alarms t moves => exact t.judgeLamp_lampTrue
  | vacate p => exact State.judgeLamp_lampTrue _
  | release p => exact State.LampTrue.returnCandidate (State.judgeLamp_lampTrue _) _
  | expireOffer p => exact ((State.judgeLamp_lampTrue _).queueNotice _ _).returnCandidate _
  | learn p => exact h.congr rfl rfl rfl rfl (s.setPos_map_field Position.alarms p rfl)
  | offer p c => exact h.congr rfl rfl rfl rfl (s.setPos_map_field Position.alarms p rfl)
  | reoffer id => rw [State.reoffer_eq]; exact h
  | countOffer o => rw [State.countOffer_eq]; exact h.congr rfl rfl rfl rfl (s.countOffer_alarms o)
  | countLearns => exact h.congr rfl rfl rfl rfl (map_map_field _ _ Position.countLearn_alarms _)
  | reenter => exact h.congr rfl rfl rfl rfl (map_map_field _ _ (Position.reenter_alarms _) _)
  | accept t slot ch => rw [State.accept_eq]; exact h.congr rfl rfl rfl rfl (s.accept_alarms t slot ch)
  | runEngine => rw [State.runEngine_eq]; exact h
  | finish => rw [State.finish_eq]; exact h
  | write w c => exact h.congr rfl rfl rfl rfl (s.setPos_map_field Position.alarms _ rfl)
  | _ => exact h

theorem State.lampRule_config {s : State} (h : s.modes.mode = .config) : s.lampRule = true := by
  unfold State.lampRule
  simp [h]

theorem State.Does.lampTrue {s t : State} (hdoes : s.Does t) (h : s.LampTrue) : t.LampTrue := by
  cases hdoes with
  | records _ move => exact move.lampTrue h
  | leaveConfig m => exact State.judgeLamp_lampTrue { s.emptyWindows with
      modes := { s.emptyWindows.modes with mode := m, pending := none }
      port := s.emptyWindows.port.changeMode s.emptyWindows.modes.mode m }
  | changeMode m =>
    have hjudged := (State.judgeLamp_lampTrue { s.emptyWindows with
      modes := { s.emptyWindows.modes with mode := m, pending := none }
      port := s.emptyWindows.port.changeMode s.emptyWindows.modes.mode m }).queueNotice (.mode m .command) 1
    exact hjudged
  | toConfig =>
    rw [State.changeToConfig_eq]
    exact (State.judgeLamp_lampTrue _).queueNotice _ _
  | axle a entry _ _ _ config =>
    have htrue : s.lamp = true := h.trans (State.lampRule_config config)
    have hfold := foldl_keeps (fun t : State => t.modes.mode = .config ∧ t.lamp = true) State.fit (axlePositions a)
      (fun t p _ ht => ?_) { s with axles := s.axles.set (a - 1) entry } ⟨config, htrue⟩
    · exact hfold.2.trans (State.lampRule_config hfold.1).symm
    · have hempty : ∀ x, (t.enterEmpty p x).lamp = true := fun x => State.lampRule_config (by exact ht.1)
      unfold State.fit
      split_ifs
      · exact ⟨ht.1, hempty _⟩
      · exact ht
      · exact ht
      · exact ⟨ht.1, hempty _⟩
  | kind k x _ config =>
    have htrue : s.lamp = true := h.trans (State.lampRule_config config)
    exact htrue.trans (State.lampRule_config (s := { s with kinds := s.kinds.put k x }) config).symm
  | goodFrame => exact State.judgeLamp_lampTrue _
  | hostSilence => exact State.judgeLamp_lampTrue _
  | _ => exact h

theorem State.Works.lampTrue {s t : State} (hworks : s.Works t) (h : s.LampTrue) : t.LampTrue := by
  induction hworks with
  | refl => exact h
  | tail _ hstep ih => exact hstep.lampTrue ih

theorem State.Event.lampTrue {s t : State} (hevent : s.Event t) (h : s.LampTrue) : t.LampTrue := by
  cases hevent with
  | works _ hworks => exact hworks.lampTrue h
  | command u kind a _ hworks =>
    have htaking : s.taking.LampTrue := by
      have hgood := (State.Does.goodFrame s).lampTrue h
      rw [State.goodFrame_eq] at hgood
      exact hgood
    exact hworks.lampTrue htaking
  | boundary => exact h
  | warmRestart => exact State.judgeLamp_lampTrue _
  | coldReset => exact (State.lampRule_config rfl).symm
  | release => exact h

theorem State.linesTrue_iff (s : State) : s.LinesTrue ↔ s.LampTrue ∧ s.store.attends := by
  unfold State.LinesTrue State.LampTrue NoticeStore.attends
  have hlamp : s.lamp = s.lampRule ↔ (s.lamp = true ↔ s.lampRule = true) := Bool.eq_iff_iff
  rw [hlamp, State.lampRule_eq_true_iff]

/-- Settles O53: what moves the sub-records, the mode or HOST_SILENT judges LAMP, and every move of the store sets ATTN. -/
theorem stepKeepsLines : Obligations.StepKeepsLines := by
  unfold Obligations.StepKeepsLines
  intro s t hs hstep
  refine step_keeps (Q := State.LinesTrue) (fun _ _ h => h) (fun s t hevent h => ?_) hs hstep
  rw [State.linesTrue_iff] at h ⊢
  exact ⟨hevent.lampTrue h.1, hevent.attends h.2⟩

end Sys2Proof.Machine

/-! PROOF. What an operation makes of each position's record, and the fitted positions (R1, R4, R5). -/

namespace Sys2Proof.Machine

open Relation (ReflTransGen)

/-! ## One record -/

/-- What one operation makes of a record that it does not make pending, under the kind settings, the mode, the running frame's
number and the engine, in a table of `n` records. -/
inductive Position.Settles (n : Nat) (K : PerKind KindSetting) (m : Mode) (f : FrameNo) (en : Engine) : Position → Position → Prop
  | vacated (r : Position) (fitted : r.state ≠ .absent) : Settles n K m f en r (Position.emptied .vacant f)
  | alarm (r : Position) (k : Kind) (a : SubRecord) (bound : r.state.bound = true)
      (below : countBelow k (K.get k) (r.alarms.get k) = true → countBelow k (K.get k) a = true)
      (quiet : m = .config → a = { r.alarms.get k with pending := false }) :
      Settles n K m f en r { r with alarms := r.alarms.put k a }
  | missing (r : Position) (heard : r.state = .active ∨ r.state = .assigned) (runs : m ≠ .config) :
      Settles n K m f en r { r with state := .missing, stateEntry := f }
  | offerCounted (r : Position) (o : Offer) (offered : r.offer = some o) :
      Settles n K m f en r { r with offer := some { o with remaining := o.remaining - 1 } }
  | learnCounted (r : Position) (goes : n ≤ 32 → learnOver r = false) : Settles n K m f en r r.countLearn
  | reentered (r : Position) : Settles n K m f en r (Position.reenter f r)
  | heard (r : Position) (ch : Channel) (holds : r.state.hasId = true) (runs : m ≠ .config) : Settles n K m f en r (r.heard f ch)
  | written (r : Position) (w : InFlight) (c : Capture) (busy : en = .busy w) (report : w.capture = some c) :
      Settles n K m f en r { r with wheel := r.wheel.taken w.entry (handedResults w c m) }

/-- A position becomes LEARNING in a frame (R9, R56). -/
def Position.learningIn (f : FrameNo) (r : Position) : Position :=
  { r with state := .learning, stateEntry := f, learn := some Config.learnFrames }

/-- A position becomes OFFERED with a candidate in a frame (R9, R46, R57). -/
def Position.offeredIn (f : FrameNo) (c : Candidate) (r : Position) : Position :=
  { r with state := .offered, sensorId := some c.id, stateEntry := f, offer := some ⟨Config.offerBeacons, c⟩, learn := none }

/-- What one operation makes of a record. -/
inductive Position.Becomes (n : Nat) (K : PerKind KindSetting) (m : Mode) (f : FrameNo) (en : Engine) : Position → Position → Prop
  | settles (r r' : Position) (h : Position.Settles n K m f en r r') : Becomes n K m f en r r'
  | learning (r : Position) (vacant : r.state = .vacant) (runs : m ≠ .config) : Becomes n K m f en r (r.learningIn f)
  | offered (r : Position) (c : Candidate) (free : r.state = .learning ∨ r.state = .vacant) (runs : m ≠ .config) :
      Becomes n K m f en r (r.offeredIn f c)

/-- What operations that make nothing pending, under the settings of a state, make of a record. -/
abbrev State.Settles (s : State) : Position → Position → Prop :=
  ReflTransGen (Position.Settles s.positions.length s.kinds s.modes.mode s.seq.frameNumber s.engine)

/-- What operations under the settings of a state make of a record. -/
abbrev State.Becomes (s : State) : Position → Position → Prop :=
  ReflTransGen (Position.Becomes s.positions.length s.kinds s.modes.mode s.seq.frameNumber s.engine)

theorem State.Settles.becomes {s : State} {r r' : Position} (h : s.Settles r r') : s.Becomes r r' :=
  ReflTransGen.mono (fun _ _ h => .settles _ _ h) r r' h

/-! ## The table, record by record -/

theorem State.forall₂_of_pos {R : Position → Position → Prop} {s t : State} (hlen : t.positions.length = s.positions.length)
    (h : ∀ p < s.positions.length, R (s.pos p) (t.pos p)) : List.Forall₂ R s.positions t.positions := by
  refine List.forall₂_iff_get.mpr ⟨hlen.symm, fun p hs ht => ?_⟩
  have hp := h p hs
  simpa [State.pos, List.getD_eq_getElem?_getD, hs, ht] using hp

theorem State.pos_of_forall₂ {R : Position → Position → Prop} {s t : State} (h : List.Forall₂ R s.positions t.positions)
    {p : Nat} (hp : p < s.positions.length) : R (s.pos p) (t.pos p) := by
  obtain ⟨hlen, hget⟩ := List.forall₂_iff_get.mp h
  have ht : p < t.positions.length := hlen ▸ hp
  simpa [State.pos, List.getD_eq_getElem?_getD, hp, ht] using hget p hp ht

theorem forall₂_refl {R : Position → Position → Prop} (hR : ∀ r, R r r) (rs : List Position) : List.Forall₂ R rs rs :=
  List.forall₂_same.mpr fun r _ => hR r

theorem forall₂_trans {R : Position → Position → Prop} (hR : ∀ a b c, R a b → R b c → R a c) :
    ∀ {as bs cs : List Position}, List.Forall₂ R as bs → List.Forall₂ R bs cs → List.Forall₂ R as cs
  | _, _, _, .nil, .nil => .nil
  | _, _, _, .cons h1 t1, .cons h2 t2 => .cons (hR _ _ _ h1 h2) (forall₂_trans hR t1 t2)

theorem forall₂_map {R : Position → Position → Prop} {g : Position → Position} {rs : List Position} (h : ∀ r ∈ rs, R r (g r)) :
    List.Forall₂ R rs (rs.map g) :=
  List.forall₂_map_right_iff.mpr (List.forall₂_same.mpr h)

/-- A predicate that the relation carries over holds of every record afterwards. -/
theorem forall₂_all {R : Position → Position → Prop} {P : Position → Prop} (hP : ∀ r r', R r r' → P r → P r') :
    ∀ {rs rs' : List Position}, List.Forall₂ R rs rs' → (∀ r ∈ rs, P r) → ∀ r ∈ rs', P r
  | _, _, .nil, _ => fun _ h => absurd h List.not_mem_nil
  | _, _, .cons hhead htail, hall => fun r hr => by
    rcases List.mem_cons.mp hr with heq | hmem
    · exact heq ▸ hP _ _ hhead (hall _ List.mem_cons_self)
    · exact forall₂_all hP htail (fun x hx => hall x (List.mem_cons_of_mem _ hx)) r hmem

theorem State.setPos_forall₂ {R : Position → Position → Prop} (hR : ∀ r, R r r) {s : State} {p : Nat} {r : Position}
    (h : p < s.positions.length → R (s.pos p) r) : List.Forall₂ R s.positions (s.setPos p r).positions := by
  refine State.forall₂_of_pos (by simp) fun q hq => ?_
  rw [State.setPos_pos]
  split
  · rename_i hqp
    rw [hqp.1]
    exact h hqp.2
  · exact hR _

/-! ## Every operation on the records -/

section
variable {s t : State}

theorem State.AlarmMove.settles (h : s.AlarmMove t) : List.Forall₂ s.Settles s.positions t.positions := by
  cases h with
  | notice n p => rw [State.queueNotice_positions]; exact forall₂_refl (fun _ => .refl) _
  | withdraw f => exact forall₂_refl (fun _ => .refl) _
  | setAlarm p k a bound below quiet =>
    exact State.setPos_forall₂ (fun _ => .refl) fun _ => .single (.alarm _ k a bound below quiet)
  | missing p heard runs => exact State.setPos_forall₂ (fun _ => .refl) fun _ => .single (.missing _ heard runs)

theorem State.AlarmMove.settles_star (h : ReflTransGen State.AlarmMove s t) :
    List.Forall₂ s.Settles s.positions t.positions := by
  induction h with
  | refl => exact forall₂_refl (fun _ => .refl) _
  | @tail u v hmoves hstep ih =>
    have hnext := hstep.settles
    unfold State.Settles at hnext
    rw [← ih.length_eq, State.AlarmMove.eq hmoves] at hnext
    exact forall₂_trans (fun _ _ _ => .trans) ih hnext

theorem State.enterEmpty_settles (s : State) {p : Nat} (fitted : (s.pos p).state ≠ .absent) :
    List.Forall₂ s.Settles s.positions (s.enterEmpty p .vacant).positions := by
  rw [State.enterEmpty_positions]
  exact State.setPos_forall₂ (fun _ => .refl) fun _ => .single (.vacated _ fitted)

theorem State.countOffer_settles (s : State) (o : OfferEntry) :
    List.Forall₂ s.Settles s.positions (s.countOffer o).positions := by
  unfold State.countOffer
  dsimp only
  split
  · rename_i f hoffer
    split
    · exact State.setPos_forall₂ (fun _ => .refl) fun _ => .single (.offerCounted _ f hoffer)
    · exact forall₂_refl (fun _ => .refl) _
  · exact forall₂_refl (fun _ => .refl) _

theorem State.judgeArrival_hasId {s : State} {t : Telegram} {slot : Nat} (ok : s.judgeArrival t slot = .accepted)
    (hkind : t.kind = .report) : (s.pos (slot - 1)).state.hasId = true := by
  unfold State.judgeArrival at ok
  split_ifs at ok with _ hid
  simpa [hkind] using hid

theorem State.accept_settles {u : Telegram} {slot : Nat} (ok : s.judgeArrival u slot = .accepted) (runs : s.modes.mode ≠ .config)
    (ch : Channel) : List.Forall₂ s.Settles s.positions (s.accept u slot ch).positions := by
  unfold State.accept
  rw [State.runEngine_eq]
  dsimp only
  split
  · rename_i hkind
    rw [State.tellArrival_eq]
    exact State.setPos_forall₂ (fun _ => .refl) fun _ => .single (.heard _ ch (State.judgeArrival_hasId ok hkind) runs)
  · exact forall₂_refl (fun _ => .refl) _

/-- An operation makes no position pending, or makes one LEARNING, or one OFFERED. -/
theorem State.RecordMove.settles_or (h : s.RecordMove t) : List.Forall₂ s.Settles s.positions t.positions ∨
    (∃ p, (s.pos p).state = .vacant ∧ s.learningPosition = none ∧ s.pendingFull = false ∧ s.modes.mode ≠ .config ∧
      t = s.setPos p ((s.pos p).learningIn s.seq.frameNumber)) ∨
    (∃ p c, findCandidate c.id s.join.candidates = some c ∧
      ((s.pos p).state = .learning ∨ ((s.pos p).state = .vacant ∧ s.pendingFull = false)) ∧ s.modes.mode ≠ .config ∧
      t = s.offerTo p c) := by
  cases h with
  | learn p vacant none room runs => exact .inr (.inl ⟨p, vacant, none, room, runs, rfl⟩)
  | offer p c listed free runs => exact .inr (.inr ⟨p, c, listed, free, runs, rfl⟩)
  | notice n p => rw [State.queueNotice_positions]; exact .inl (forall₂_refl (fun _ => .refl) _)
  | raise c => rw [State.raise_positions]; exact .inl (forall₂_refl (fun _ => .refl) _)
  | alarms t moves => exact .inl (State.AlarmMove.settles_star moves : List.Forall₂ s.Settles s.positions t.positions)
  | vacate p fitted => exact .inl (s.enterEmpty_settles fitted)
  | release p fitted => rw [State.returnCandidate_positions]; exact .inl (s.enterEmpty_settles fitted)
  | expireOffer p offered =>
    rw [State.expireOffer, State.returnCandidate_positions, State.queueNotice_positions]
    exact .inl (s.enterEmpty_settles (by rw [offered]; decide))
  | reoffer id => rw [State.reoffer_eq]; exact .inl (forall₂_refl (fun _ => .refl) _)
  | countOffer o => exact .inl (s.countOffer_settles o)
  | countLearns goes =>
    refine .inl (State.forall₂_of_pos (by simp) fun p hp => ?_)
    have hpos : ({ s with positions := s.positions.map Position.countLearn } : State).pos p = (s.pos p).countLearn := by
      simp [State.pos, List.getD_eq_getElem?_getD, hp]
    rw [hpos]
    exact .single (.learnCounted _ fun hn => goes p (by omega))
  | reenter => exact .inl (forall₂_map fun r _ => .single (.reentered r))
  | accept u slot ch ok runs => exact .inl (State.accept_settles ok runs ch)
  | runEngine => rw [State.runEngine_eq]; exact .inl (forall₂_refl (fun _ => .refl) _)
  | finish => rw [State.finish_eq]; exact .inl (forall₂_refl (fun _ => .refl) _)
  | write w c busy report => exact .inl (State.setPos_forall₂ (fun _ => .refl) fun _ => .single (.written _ w c busy report))
  | _ => exact .inl (forall₂_refl (fun _ => .refl) _)

theorem State.RecordMove.becomes (h : s.RecordMove t) : List.Forall₂ s.Becomes s.positions t.positions := by
  rcases h.settles_or with hall | ⟨p, vacant, _, _, runs, rfl⟩ | ⟨p, c, _, free, runs, rfl⟩
  · exact hall.imp fun _ _ h => State.Settles.becomes h
  · exact State.setPos_forall₂ (fun _ => .refl) fun _ => .single (.learning _ vacant runs)
  · exact State.setPos_forall₂ (s := s) (fun _ => .refl) fun _ => .single (.offered _ c (free.imp_right And.left) runs)

end

/-! ## SET_AXLE on the records (R4) -/

/-- A record brought into line with its axle entry, which fits the position or not (R4). -/
def Position.fittedTo (f : FrameNo) (fits : Bool) (r : Position) : Position :=
  if r.state = .absent then if fits then Position.emptied .vacant f else r
  else if fits then r else Position.emptied .absent f

theorem State.fit_pos (s : State) (p q : Nat) :
    (s.fit p).pos q =
      if q = p ∧ p < s.positions.length then (s.pos p).fittedTo s.seq.frameNumber (s.fitted p) else s.pos q := by
  by_cases hqp : q = p ∧ p < s.positions.length
  · rw [if_pos hqp]
    unfold State.fit Position.fittedTo
    split_ifs <;> simp [State.enterEmpty_pos, hqp]
  · unfold State.fit
    rw [if_neg hqp]
    split_ifs <;> simp [State.enterEmpty_pos, hqp]

theorem State.fit_length (s : State) (p : Nat) : (s.fit p).positions.length = s.positions.length := by
  unfold State.fit
  split_ifs <;> simp

theorem State.fit_axles (s : State) (p : Nat) : (s.fit p).axles = s.axles := by rw [State.fit_eq]

theorem State.fit_seq (s : State) (p : Nat) : (s.fit p).seq = s.seq := by rw [State.fit_eq]

theorem State.fitted_congr {s t : State} (h : t.axles = s.axles) (p : Nat) : t.fitted p = s.fitted p := by
  unfold State.fitted State.axleOf
  rw [h]

theorem State.foldl_fit_length (ps : List Nat) (s : State) : (ps.foldl State.fit s).positions.length = s.positions.length :=
  foldl_field (fun t => t.positions.length) State.fit State.fit_length ps s

/-- Positions brought into line one after the other. -/
theorem State.foldl_fit_pos {ps : List Nat} (hps : ps.Nodup) (q : Nat) : ∀ s : State, q < s.positions.length →
    (ps.foldl State.fit s).pos q = if q ∈ ps then (s.pos q).fittedTo s.seq.frameNumber (s.fitted q) else s.pos q := by
  induction ps with
  | nil => exact fun s _ => by simp
  | cons p ps ih =>
    intro s hq
    obtain ⟨hp, hps⟩ := List.nodup_cons.mp hps
    rw [List.foldl_cons, ih hps (s.fit p) (by rwa [State.fit_length]), State.fit_seq,
      State.fitted_congr (s.fit_axles p), State.fit_pos]
    by_cases hqp : q = p
    · subst hqp
      simp [hp, hq]
    · simp [hqp]

theorem mem_axlePositions {a q : Nat} : q ∈ axlePositions a ↔ q / 4 = a - 1 := by
  unfold axlePositions
  simp only [List.mem_cons, List.not_mem_nil, or_false]
  omega

theorem axlePositions_nodup (a : Nat) : (axlePositions a).Nodup := by
  unfold axlePositions
  simp

@[simp] theorem State.storeAxle_length (s : State) (a : Nat) (entry : Axle) :
    (s.storeAxle a entry).positions.length = s.positions.length :=
  State.foldl_fit_length _ _

/-- What SET_AXLE makes of each record (R4). -/
theorem State.storeAxle_pos {s : State} {a q : Nat} (first : 1 ≤ a) (last : a ≤ s.axles.length) (hq : q < s.positions.length)
    (entry : Axle) :
    (s.storeAxle a entry).pos q =
      if q / 4 = a - 1 then (s.pos q).fittedTo s.seq.frameNumber (fittedBy entry q) else s.pos q := by
  have hfitted : q / 4 = a - 1 → ({ s with axles := s.axles.set (a - 1) entry } : State).fitted q = fittedBy entry q := by
    intro hqa
    have hlt : a - 1 < s.axles.length := by omega
    simp [State.fitted, State.axleOf, hqa, List.getD_eq_getElem?_getD, hlt]
  unfold State.storeAxle
  rw [State.foldl_fit_pos (axlePositions_nodup a) q { s with axles := s.axles.set (a - 1) entry } hq]
  simp only [mem_axlePositions]
  by_cases hqa : q / 4 = a - 1
  · rw [if_pos hqa, if_pos hqa, hfitted hqa]
    rfl
  · rw [if_neg hqa, if_neg hqa]
    rfl

theorem State.storeAxle_fitted {s : State} {a : Nat} (first : 1 ≤ a) (last : a ≤ s.axles.length) (entry : Axle) (q : Nat) :
    (s.storeAxle a entry).fitted q = if q / 4 = a - 1 then fittedBy entry q else s.fitted q := by
  rw [State.storeAxle_eq]
  unfold State.fitted State.axleOf
  dsimp only
  have hlt : a - 1 < s.axles.length := by omega
  split
  · rename_i hqa
    simp [hqa, List.getD_eq_getElem?_getD, hlt]
  · rename_i hqa
    simp [List.getD_eq_getElem?_getD, List.getElem?_set_ne (Ne.symm hqa)]

/-! ## Every change of a record -/

/-- What a change of mode or a new axle entry makes of a record (R4, R54, R91, R168). -/
inductive Position.Turns (m : Mode) (f : FrameNo) : Position → Position → Prop
  | vacated (r : Position) (fitted : r.state ≠ .absent) : Turns m f r (Position.emptied .vacant f)
  | emptyWindow (r : Position) : Turns m f r r.emptyWindow
  | toConfig (r : Position) : Turns m f r (Position.toConfig f r)
  | fittedTo (r : Position) (fits : Bool) (config : m = .config) : Turns m f r (r.fittedTo f fits)

/-- What changes of mode and axle entries make of a record, under the mode and the running frame's number of a state. -/
abbrev State.Turns (s : State) : Position → Position → Prop := ReflTransGen (Position.Turns s.modes.mode s.seq.frameNumber)

/-- What work on the part can make of a record. -/
inductive Position.Changes (n : Nat) (K : PerKind KindSetting) (m : Mode) (f : FrameNo) (en : Engine) : Position → Position → Prop
  | becomes (r r' : Position) (h : Position.Becomes n K m f en r r') : Changes n K m f en r r'
  | turns (r r' : Position) (h : Position.Turns m f r r') : Changes n K m f en r r'

/-- What work under the settings of a state makes of a record. -/
abbrev State.Changes (s : State) : Position → Position → Prop :=
  ReflTransGen (Position.Changes s.positions.length s.kinds s.modes.mode s.seq.frameNumber s.engine)

theorem State.Becomes.changes {s : State} {r r' : Position} (h : s.Becomes r r') : s.Changes r r' :=
  ReflTransGen.mono (fun _ _ h => .becomes _ _ h) r r' h

theorem State.Turns.changes {s : State} {r r' : Position} (h : s.Turns r r') : s.Changes r r' :=
  ReflTransGen.mono (fun _ _ h => .turns _ _ h) r r' h

/-- A record after the join controller's work at a change to CONFIG (R54). -/
def Position.failed (f : FrameNo) (r : Position) : Position :=
  if r.state.pendingBind then Position.emptied .vacant f else r

theorem State.failBinding_pos (s : State) (p q : Nat) :
    (s.failBinding p).pos q = if q = p then (s.pos p).failed s.seq.frameNumber else s.pos q := by
  unfold State.failBinding Position.failed
  split
  · rename_i hpending
    have hlen : p < s.positions.length := s.lt_of_state_ne_absent fun h => by rw [h] at hpending; cases hpending
    rw [State.queueNotice_pos, State.enterEmpty_pos]
    simp only [hlen, and_true]
  · split
    · rename_i hqp
      rw [hqp]
    · rfl

theorem State.failBinding_length (s : State) (p : Nat) : (s.failBinding p).positions.length = s.positions.length := by
  unfold State.failBinding
  split <;> simp

theorem State.joinToConfig_pos (s : State) (q : Nat) :
    s.joinToConfig.pos q = if q < 32 then (s.pos q).failed s.seq.frameNumber else s.pos q := by
  have hfold := foldl_allPositions (f := State.failBinding) (R := fun _ r => r.failed s.seq.frameNumber)
    (fun t => t.seq = s.seq) (fun t p ht => by rw [State.failBinding_eq]; exact ht)
    (fun t p q ht => by rw [State.failBinding_pos, ht]) (s := s) rfl
  have hset : ∀ t : State, ((t.setCandidates []).setReoffers []).pos q = t.pos q := fun _ => rfl
  unfold State.joinToConfig
  rw [hset]
  exact hfold.2 q

theorem State.joinToConfig_length (s : State) : s.joinToConfig.positions.length = s.positions.length := by
  have hset : ∀ t : State, ((t.setCandidates []).setReoffers []).positions.length = t.positions.length := fun _ => rfl
  unfold State.joinToConfig
  rw [hset]
  exact foldl_field (fun t => t.positions.length) State.failBinding State.failBinding_length allPositions s

theorem Position.failed_turns (m : Mode) (f : FrameNo) (r : Position) : ReflTransGen (Position.Turns m f) r (r.failed f) := by
  unfold Position.failed
  split
  · rename_i hpending
    exact .single (.vacated _ fun h => by rw [h] at hpending; cases hpending)
  · exact .refl

@[simp] theorem State.changeToConfig_length (s : State) : s.changeToConfig.positions.length = s.positions.length := by
  rw [State.changeToConfig_eq, State.noticeMode, State.queueNotice_positions]
  have hset : ∀ t : State, (t.halted.enterMode .config).positions.length = t.positions.length := fun _ => rfl
  rw [hset, State.joinToConfig_length]
  exact List.length_map _

/-- A record after a change to CONFIG (R13, R54, R119). -/
theorem State.changeToConfig_pos (s : State) {q : Nat} (hq : q < s.positions.length) :
    s.changeToConfig.pos q =
      if q < 32 then (Position.toConfig s.seq.frameNumber (s.pos q)).failed s.seq.frameNumber
      else Position.toConfig s.seq.frameNumber (s.pos q) := by
  have hset : ∀ t : State, (t.halted.enterMode .config).pos q = t.pos q := fun _ => rfl
  rw [State.changeToConfig_eq, State.noticeMode, State.queueNotice_pos, hset, State.joinToConfig_pos]
  have htable : s.configTable.pos q = Position.toConfig s.seq.frameNumber (s.pos q) := by
    change (List.map (Position.toConfig s.seq.frameNumber) s.positions).getD q Position.cold = _
    simp [State.pos, List.getD_eq_getElem?_getD, hq]
  rw [htable]
  rfl

theorem State.Does.turns_or {s t : State} (h : s.Does t) : s.RecordMove t ∨ List.Forall₂ s.Turns s.positions t.positions := by
  cases h with
  | records _ move => exact .inl move
  | leaveConfig m => exact .inr <| forall₂_map fun r _ => .single (.emptyWindow r)
  | changeMode m =>
    change _ ∨ List.Forall₂ s.Turns s.positions ((s.emptyWindows.enterMode m).noticeMode m).positions
    rw [State.noticeMode, State.queueNotice_positions]
    exact .inr <| forall₂_map fun r _ => .single (.emptyWindow r)
  | toConfig =>
    refine .inr <| State.forall₂_of_pos s.changeToConfig_length fun q hq => ?_
    rw [s.changeToConfig_pos hq]
    split
    · exact .head (.toConfig _) (Position.failed_turns _ _ _)
    · exact .single (.toConfig _)
  | axle a entry _ _ _ config =>
    refine .inr <| foldl_keeps (fun t => t.positions.length = s.positions.length ∧ t.seq = s.seq ∧
        List.Forall₂ s.Turns s.positions t.positions) State.fit (axlePositions a) (fun t p _ ht => ?_)
      { s with axles := s.axles.set (a - 1) entry } ⟨rfl, rfl, forall₂_refl (fun _ => .refl) _⟩ |>.2.2
    obtain ⟨hlen, hseq, hall⟩ := ht
    refine ⟨(t.fit_length p).trans hlen, (t.fit_seq p).trans hseq, forall₂_trans (fun _ _ _ => .trans) hall ?_⟩
    refine State.forall₂_of_pos (t.fit_length p) fun q hq => ?_
    rw [t.fit_pos]
    split
    · rename_i hqp
      rw [hqp.1, hseq]
      exact .single (.fittedTo _ _ config)
    · exact .refl
  | _ => exact .inr (forall₂_refl (fun _ => .refl) _)

theorem State.Does.changes {s t : State} (h : s.Does t) : List.Forall₂ s.Changes s.positions t.positions := by
  rcases h.turns_or with hmove | hturns
  · exact hmove.becomes.imp fun _ _ h => State.Becomes.changes h
  · exact hturns.imp fun _ _ h => State.Turns.changes h

/-! ## Fitted and unfitted positions (R1, R4) -/

theorem Position.Settles.absent_iff {n : Nat} {K : PerKind KindSetting} {m : Mode} {f : FrameNo} {en : Engine} {r r' : Position}
    (h : Position.Settles n K m f en r r') : r'.state = .absent ↔ r.state = .absent := by
  cases h with
  | vacated fitted => simp [Position.emptied, fitted]
  | missing heard => rcases heard with h | h <;> simp [h]
  | learnCounted => unfold Position.countLearn; split <;> simp
  | reentered => unfold Position.reenter; split <;> simp
  | heard ch holds => unfold Position.heard; cases hs : r.state <;> simp [hs, PosState.hasId] at holds ⊢
  | _ => rfl

theorem Position.Becomes.absent_iff {n : Nat} {K : PerKind KindSetting} {m : Mode} {f : FrameNo} {en : Engine} {r r' : Position}
    (h : Position.Becomes n K m f en r r') : r'.state = .absent ↔ r.state = .absent := by
  cases h with
  | settles _ h => exact h.absent_iff
  | learning vacant => simp [Position.learningIn, vacant]
  | offered c free => rcases free with h | h <;> simp [Position.offeredIn, h]

theorem State.Becomes.absent_iff {s : State} {r r' : Position} (h : s.Becomes r r') : r'.state = .absent ↔ r.state = .absent := by
  induction h with
  | refl => rfl
  | tail _ hstep ih => exact hstep.absent_iff.trans ih

theorem Position.toConfig_absent_iff (f : FrameNo) (r : Position) : (Position.toConfig f r).state = .absent ↔ r.state = .absent := by
  unfold Position.toConfig
  cases hs : r.state <;> simp [Position.emptyWindow, hs]

theorem Position.failed_absent_iff (f : FrameNo) (r : Position) : (r.failed f).state = .absent ↔ r.state = .absent := by
  unfold Position.failed
  split
  · rename_i hpending
    cases hs : r.state <;> simp [hs, PosState.pendingBind, Position.emptied] at hpending ⊢
  · rfl

theorem Position.warm_absent_iff (f : FrameNo) (r : Position) : (Position.warm f r).state = .absent ↔ r.state = .absent := by
  unfold Position.warm
  cases hs : r.state <;> simp [Position.emptied]

theorem Position.fittedTo_absent_iff (f : FrameNo) (fits : Bool) (r : Position) :
    (r.fittedTo f fits).state = .absent ↔ fits = false := by
  unfold Position.fittedTo
  split_ifs <;> simp_all [Position.emptied]

/-- Records that are ABSENT where they were, under the same axle plan, are ABSENT exactly where they are unfitted. -/
theorem State.FittedExactly.congr {s t : State} (h : s.FittedExactly) (haxles : t.axles = s.axles)
    (hall : List.Forall₂ (fun r r' : Position => r'.state = .absent ↔ r.state = .absent) s.positions t.positions) :
    t.FittedExactly := by
  obtain ⟨hlen, hax, hfit⟩ := h
  refine ⟨hall.length_eq.symm.trans hlen, by rw [haxles, hax], fun p hp => ?_⟩
  rw [State.fitted_congr haxles, ← hfit p hp]
  exact State.pos_of_forall₂ (R := fun r r' : Position => r'.state = .absent ↔ r.state = .absent) hall (by omega)

theorem State.Does.fittedExactly {s t : State} (hdoes : s.Does t) (h : s.FittedExactly) : t.FittedExactly := by
  have windows : List.Forall₂ (fun r r' : Position => r'.state = .absent ↔ r.state = .absent) s.positions
      (s.positions.map Position.emptyWindow) := forall₂_map fun _ _ => Iff.rfl
  have same : List.Forall₂ (fun r r' : Position => r'.state = .absent ↔ r.state = .absent) s.positions s.positions :=
    forall₂_refl (fun _ => Iff.rfl) _
  cases hdoes with
  | records _ move =>
    exact h.congr (by rw [move.eq]) (move.becomes.imp fun _ _ h => State.Becomes.absent_iff h)
  | leaveConfig m => exact h.congr rfl windows
  | changeMode m =>
    refine h.congr (State.queueNotice_axles _ _ _) ?_
    change List.Forall₂ _ s.positions ((s.emptyWindows.enterMode m).noticeMode m).positions
    rw [State.noticeMode, State.queueNotice_positions]
    exact windows
  | toConfig =>
    refine h.congr ?_ (State.forall₂_of_pos s.changeToConfig_length fun q hq => ?_)
    · have hset : ∀ t : State, (t.halted.enterMode .config).axles = t.axles := fun _ => rfl
      rw [State.changeToConfig_eq, State.noticeMode, State.queueNotice_axles, hset, State.joinToConfig_eq]
      rfl
    · rw [s.changeToConfig_pos hq]
      split
      · exact (Position.failed_absent_iff _ _).trans (Position.toConfig_absent_iff _ _)
      · exact Position.toConfig_absent_iff _ _
  | axle a entry _ first last =>
    obtain ⟨hlen, hax, hfit⟩ := h
    refine ⟨(s.storeAxle_length a entry).trans hlen, by rw [State.storeAxle_eq]; simpa using hax, fun p hp => ?_⟩
    rw [State.storeAxle_pos first (hax ▸ last) (hlen ▸ hp), State.storeAxle_fitted first (hax ▸ last)]
    split
    · exact Position.fittedTo_absent_iff _ _ _
    · exact hfit p hp
  | _ => exact h.congr rfl same

theorem State.Works.fittedExactly {s t : State} (hworks : s.Works t) (h : s.FittedExactly) : t.FittedExactly := by
  induction hworks with
  | refl => exact h
  | tail _ hstep ih => exact hstep.fittedExactly ih

theorem coldReset_pos (p : Nat) : State.coldReset.pos p = Position.cold := by
  simp only [State.pos, State.coldReset, List.getD_eq_getElem?_getD, List.getElem?_replicate]
  split <;> rfl

theorem coldReset_axleOf (p : Nat) : State.coldReset.axleOf p = Axle.cold := by
  simp only [State.axleOf, State.coldReset, List.getD_eq_getElem?_getD, List.getElem?_replicate]
  split <;> rfl

theorem coldReset_fittedExactly : State.coldReset.FittedExactly := by
  refine ⟨by simp [State.coldReset, Config.positions], by simp [State.coldReset, Config.axles], fun p _ => ?_⟩
  rw [coldReset_pos, State.fitted, coldReset_axleOf]
  simp [Position.cold, fittedBy, Axle.cold]

/-- Settles O58: no operation but SET_AXLE makes a record ABSENT or ends that, and SET_AXLE brings its four into line. -/
theorem stepKeepsFittedness : Obligations.StepKeepsFittedness := by
  unfold Obligations.StepKeepsFittedness
  intro s t hs hstep
  refine step_keeps (Q := State.FittedExactly) (fun _ _ h => h) (fun s t hevent h => ?_) hs hstep
  cases hevent with
  | works _ hworks => exact hworks.fittedExactly h
  | command u kind a _ hworks => exact hworks.fittedExactly (s := s.taking) h
  | boundary => exact h
  | warmRestart => exact h.congr rfl (forall₂_map fun r _ => Position.warm_absent_iff _ r)
  | coldReset => exact coldReset_fittedExactly
  | release => exact h

end Sys2Proof.Machine

/-! PROOF. The capacities of the lists through every event (spec/00, capacities at a glance). -/

namespace Sys2Proof.Machine

open Relation (ReflTransGen)

/-! ## The engine's start (R67, R68) -/

/-- The entry starts: it is a JOIN, or its binding holds (R68). -/
def State.starts (s : State) (e : QueueEntry) : Prop := e.telegram.kind = .join ∨ s.entryHolds e = true

/-- An engine that takes entries passes over those whose binding is gone and starts on the first one left (R67, R68). -/
theorem State.takeFrom_cases (s : State) : ∀ es : List QueueEntry,
    (s.takeFrom es = { s with queue := [] } ∧ ∀ e ∈ es, ¬s.starts e) ∨
    ∃ passed e rest, es = passed ++ e :: rest ∧ (∀ x ∈ passed, ¬s.starts x) ∧ s.starts e ∧
      s.takeFrom es = State.start { s with queue := rest } e
  | [] => .inl ⟨rfl, fun _ h => absurd h List.not_mem_nil⟩
  | e :: es => by
    unfold State.takeFrom
    by_cases he : s.starts e
    · exact .inr ⟨[], e, es, rfl, fun _ h => absurd h List.not_mem_nil, he, if_pos he⟩
    · rw [if_neg (show ¬(e.telegram.kind = .join ∨ s.entryHolds e = true) from he)]
      rcases s.takeFrom_cases es with ⟨heq, hall⟩ | ⟨passed, x, rest, hes, hpassed, hx, heq⟩
      · exact .inl ⟨heq, List.forall_mem_cons.mpr ⟨he, hall⟩⟩
      · exact .inr ⟨e :: passed, x, rest, by rw [hes]; rfl, List.forall_mem_cons.mpr ⟨he, hpassed⟩, hx, heq⟩

/-- What a queue and an engine keep, an engine that takes entries keeps: it only leaves the queue's tail, and starts on an entry. -/
theorem State.runEngine_law {P : List QueueEntry → Engine → Prop} {s : State} (h : P s.queue s.engine)
    (hempty : P [] .idle)
    (hstart : ∀ passed e rest, s.queue = passed ++ e :: rest → s.engine = .idle →
      P rest (State.start { s with queue := rest } e).engine) :
    P s.runEngine.queue s.runEngine.engine := by
  unfold State.runEngine
  split
  · rename_i hidle
    rcases s.takeFrom_cases s.queue with ⟨heq, _⟩ | ⟨passed, e, rest, hes, _, _, heq⟩ <;> rw [heq]
    · change P [] s.engine
      rwa [hidle]
    · exact hstart passed e rest hes hidle
  · exact h

/-! ## Records that meet a test -/

/-- A test that every record and the cold record meet is met by the record of any index. -/
theorem State.pos_of_all {P : Position → Prop} {s : State} (hcold : P Position.cold) (hall : ∀ r ∈ s.positions, P r) (p : Nat) :
    P (s.pos p) := by
  by_cases hp : p < s.positions.length
  · exact hall _ (State.pos_mem hp)
  · rwa [State.pos_of_le (Nat.le_of_not_lt hp)]

/-! ## Windows (R90) -/

theorem appendSample_length {w : List Sample} (h : w.length ≤ 8) (x : Sample) : (appendSample w x).length ≤ 8 := by
  unfold appendSample
  split <;> simp [Config.window] at * <;> omega

theorem considerSample_length {w : List Sample} (h : w.length ≤ 8) (i : Nat) (f : FrameNo) (pg : Nat) :
    (considerSample i f pg w).length ≤ 8 := by
  unfold considerSample
  split
  · simp
  · split_ifs
    · simp
    · exact appendSample_length h _
    · exact h

theorem nextWindow_length {w : List Sample} (h : w.length ≤ 8) (load : LoadState) (i : Nat) (f : FrameNo) (pg : Option Nat) :
    (nextWindow load i f pg w).length ≤ 8 := by
  unfold nextWindow
  split
  · split
    · exact h
    · exact considerSample_length h _ _ _
  · exact h

theorem handedResults_history_length {w : InFlight} {c : Capture} (h : c.history.length ≤ 8) (m : Mode) :
    (handedResults w c m).history.length ≤ 8 := by
  unfold handedResults
  split
  · exact Nat.zero_le _
  · exact nextWindow_length h _ _ _ _

theorem Position.windowFits_iff (r : Position) : r.windowFits = true ↔ r.wheel.history.length ≤ 8 := decide_eq_true_iff

theorem Engine.windowFits_busy {w : InFlight} {c : Capture} (h : Engine.windowFits (.busy w) = true) (hc : w.capture = some c) :
    c.history.length ≤ 8 := by
  simp only [Engine.windowFits, hc] at h
  exact of_decide_eq_true h

theorem Position.emptied_windowFits (x : PosState) (f : FrameNo) : (Position.emptied x f).windowFits = true := rfl

theorem Position.Settles.windowFits {n : Nat} {K : PerKind KindSetting} {m : Mode} {f : FrameNo} {en : Engine} {r r' : Position}
    (h : Position.Settles n K m f en r r') (hen : en.windowFits = true) (hr : r.windowFits = true) : r'.windowFits = true := by
  cases h with
  | vacated => rfl
  | learnCounted => unfold Position.countLearn; split <;> exact hr
  | reentered => unfold Position.reenter; split <;> exact hr
  | heard =>
    unfold Position.heard
    dsimp only
    split
    · rfl
    · exact hr
    · exact hr
  | written w c busy report =>
    rw [busy] at hen
    exact (Position.windowFits_iff _).mpr (handedResults_history_length (Engine.windowFits_busy hen report) _)
  | _ => exact hr

theorem Position.Becomes.windowFits {n : Nat} {K : PerKind KindSetting} {m : Mode} {f : FrameNo} {en : Engine} {r r' : Position}
    (h : Position.Becomes n K m f en r r') (hen : en.windowFits = true) (hr : r.windowFits = true) : r'.windowFits = true := by
  cases h with
  | settles _ h => exact h.windowFits hen hr
  | learning => exact hr
  | offered => exact hr

theorem Position.toConfig_windowFits (f : FrameNo) (r : Position) : (Position.toConfig f r).windowFits = true := by
  unfold Position.toConfig
  dsimp only
  split <;> rfl

theorem Position.Turns.windowFits {m : Mode} {f : FrameNo} {r r' : Position} (h : Position.Turns m f r r')
    (hr : r.windowFits = true) : r'.windowFits = true := by
  cases h with
  | vacated => rfl
  | emptyWindow => rfl
  | toConfig => exact Position.toConfig_windowFits _ _
  | fittedTo fits =>
    unfold Position.fittedTo
    split_ifs
    · rfl
    · exact hr
    · exact hr
    · rfl

theorem Position.Changes.windowFits {n : Nat} {K : PerKind KindSetting} {m : Mode} {f : FrameNo} {en : Engine} {r r' : Position}
    (h : Position.Changes n K m f en r r') (hen : en.windowFits = true) (hr : r.windowFits = true) : r'.windowFits = true := by
  cases h with
  | becomes h => exact h.windowFits hen hr
  | turns h => exact h.windowFits hr

theorem Engine.voidFor_windowFits (e : Engine) (p : Nat) : (e.voidFor p).windowFits = e.windowFits := by
  cases e with
  | idle => rfl
  | busy w => unfold Engine.voidFor; dsimp only; split <;> rfl

theorem Engine.markHistory_windowFits (e : Engine) : e.markHistory.windowFits = e.windowFits := by
  cases e <;> rfl

/-! ## Laws of the queue and the engine -/

/-- A law of the queue and the engine, under the settings and the records of a state, that every operation on them keeps. -/
structure EngineLaw (s : State) (P : List QueueEntry → Engine → Prop) : Prop where
  void : ∀ {q en} (p : Nat), P q en → P q (en.voidFor p)
  mark : ∀ {q en}, P q en → P q en.markHistory
  halt : ∀ {q en}, P q en → P [] en
  idle : ∀ {q en}, P q en → P q .idle
  arrive : ∀ {q en} (e : QueueEntry), q.length < 6 → 1 ≤ e.slot ∧ e.slot ≤ 36 → P q en → P (q ++ [e]) en
  start : ∀ {passed e rest rs}, List.Forall₂ s.Becomes s.positions rs → P (passed ++ e :: rest) .idle →
    P rest (State.start { s with positions := rs } e).engine

theorem State.judgeArrival_room {s : State} {t : Telegram} {slot : Nat} (ok : s.judgeArrival t slot = .accepted) :
    s.queue.length < 6 ∧ (1 ≤ slot ∧ slot ≤ 36) ∧ s.duplicate t slot = false := by
  unfold State.judgeArrival at ok
  split_ifs at ok with hsuits _ _ hdup hqueue
  refine ⟨by simpa [Config.queue] using hqueue, ?_, by simpa using hdup⟩
  unfold State.slotSuits at hsuits
  split at hsuits <;> simp at hsuits <;> omega

section
variable {s : State} {P : List QueueEntry → Engine → Prop} (law : EngineLaw s P)
include law

theorem EngineLaw.records {t : State} (hmove : s.RecordMove t) (h : P s.queue s.engine) : P t.queue t.engine := by
  have same : List.Forall₂ s.Becomes s.positions s.positions := forall₂_refl (fun _ => .refl) _
  cases hmove with
  | notice => rw [State.queueNotice_queue, State.queueNotice_engine]; exact h
  | raise => rw [State.raise_queue, State.raise_engine]; exact h
  | alarms t moves => rw [State.AlarmMove.eq moves]; exact h
  | vacate p => exact law.void p h
  | release p =>
    rw [State.returnCandidate_queue, State.returnCandidate_engine]
    exact law.void p h
  | expireOffer p =>
    rw [State.expireOffer, State.returnCandidate_queue, State.returnCandidate_engine, State.queueNotice_queue,
      State.queueNotice_engine]
    exact law.void p h
  | reoffer id => rw [State.reoffer_eq]; exact h
  | countOffer => rw [State.countOffer_eq]; exact h
  | accept u slot ch ok runs =>
    obtain ⟨hroom, hslot, _⟩ := State.judgeArrival_room ok
    have harrive := law.arrive ⟨u, slot, ch, s.seq.frameNumber⟩ hroom hslot h
    have hidle := law.idle harrive
    have hbecomes : List.Forall₂ s.Becomes s.positions (s.accept u slot ch).positions :=
      (State.accept_settles ok runs ch).imp fun _ _ h => State.Settles.becomes h
    unfold State.accept at hbecomes ⊢
    rw [State.runEngine_eq] at hbecomes
    dsimp only at hbecomes ⊢
    cases hkind : u.kind with
    | report =>
      rw [hkind] at hbecomes
      dsimp only at hbecomes ⊢
      rw [State.tellArrival_eq] at hbecomes ⊢
      refine State.runEngine_law harrive (law.halt hidle) fun passed e rest hq _ => ?_
      rw [show s.queue ++ [_] = _ from hq] at hidle
      exact law.start hbecomes hidle
    | join =>
      refine State.runEngine_law harrive (law.halt hidle) fun passed e rest hq _ => ?_
      rw [show s.queue ++ [_] = _ from hq] at hidle
      exact law.start same hidle
  | runEngine =>
    refine State.runEngine_law h (law.halt (law.idle h)) fun passed e rest hq hidle => ?_
    rw [hq, hidle] at h
    exact law.start same h
  | finish =>
    refine State.runEngine_law (s := { s with engine := .idle }) (law.idle h) (law.halt (law.idle h)) fun passed e rest hq _ => ?_
    have hidle := law.idle h
    rw [show s.queue = _ from hq] at hidle
    exact law.start same hidle
  | _ => exact h

theorem EngineLaw.does {t : State} (hdoes : s.Does t) (h : P s.queue s.engine) : P t.queue t.engine := by
  cases hdoes with
  | records _ move => exact law.records move h
  | leaveConfig m => exact law.mark h
  | changeMode m =>
    change P ((s.emptyWindows.enterMode m).noticeMode m).queue ((s.emptyWindows.enterMode m).noticeMode m).engine
    rw [State.noticeMode, State.queueNotice_queue, State.queueNotice_engine]
    exact law.mark h
  | toConfig =>
    have hset : ∀ t : State, (t.halted.enterMode .config).queue = [] ∧
      (t.halted.enterMode .config).engine = t.engine.markHistory := fun _ => ⟨rfl, rfl⟩
    rw [State.changeToConfig_eq, State.noticeMode, State.queueNotice_queue, State.queueNotice_engine, (hset _).1, (hset _).2]
    have hjoin : ∀ t : State, ((t.setCandidates []).setReoffers []).engine = t.engine := fun _ => rfl
    unfold State.joinToConfig
    rw [hjoin]
    refine law.halt (law.mark (foldl_keeps (fun t : State => P t.queue t.engine) State.failBinding allPositions
      (fun t p _ ht => ?_) s.configTable h))
    unfold State.failBinding
    split
    · rw [State.queueNotice_queue, State.queueNotice_engine]
      exact law.void p ht
    · exact ht
  | axle a entry =>
    refine foldl_keeps (fun t : State => P t.queue t.engine) State.fit (axlePositions a) (fun t p _ ht => ?_)
      { s with axles := s.axles.set (a - 1) entry } h
    unfold State.fit
    split_ifs
    · exact law.void p ht
    · exact ht
    · exact ht
    · exact law.void p ht
  | _ => exact h

end

/-! ## The windows, the queue -/

/-- Every window holds at most eight samples, the captured one included, and the queue six entries (R64, R69, R90). -/
def State.WindowsFit (s : State) : Prop :=
  (∀ r ∈ s.positions, r.windowFits = true) ∧ s.queue.length ≤ 6 ∧ s.engine.windowFits = true

theorem State.Does.windowFits_records {s t : State} (hdoes : s.Does t) (hen : s.engine.windowFits = true)
    (h : ∀ r ∈ s.positions, r.windowFits = true) : ∀ r ∈ t.positions, r.windowFits = true := by
  refine forall₂_all (P := fun r => r.windowFits = true) (fun r r' hstar hr => ?_) hdoes.changes h
  induction hstar with
  | refl => exact hr
  | tail _ hstep ih => exact hstep.windowFits hen ih

theorem State.windowsLaw {s : State} (hen : s.engine.windowFits = true) (hall : ∀ r ∈ s.positions, r.windowFits = true) :
    EngineLaw s (fun q en => q.length ≤ 6 ∧ en.windowFits = true) where
  void p h := ⟨h.1, (Engine.voidFor_windowFits _ p).trans h.2⟩
  mark h := ⟨h.1, (Engine.markHistory_windowFits _).trans h.2⟩
  halt h := ⟨Nat.zero_le _, h.2⟩
  idle h := ⟨h.1, rfl⟩
  arrive e hroom _ h := ⟨by rw [List.length_append]; exact hroom, h.2⟩
  start {passed e rest rs} hrs h := by
    have hrecords : ∀ r ∈ rs, r.windowFits = true := by
      refine forall₂_all (P := fun r => r.windowFits = true) (fun r r' hstar hr => ?_) hrs hall
      induction hstar with
      | refl => exact hr
      | tail _ hstep ih => exact hstep.windowFits hen ih
    have hlen := h.1
    rw [List.length_append, List.length_cons] at hlen
    refine ⟨by omega, ?_⟩
    have hwindow := (Position.windowFits_iff _).mp
      (State.pos_of_all (s := { s with positions := rs }) (P := fun r => r.windowFits = true) rfl hrecords e.position)
    unfold State.start Engine.windowFits
    dsimp only
    cases e.telegram.kind with
    | report => exact decide_eq_true hwindow
    | join => rfl

theorem State.Does.windowsFit {s t : State} (hdoes : s.Does t) (h : s.WindowsFit) : t.WindowsFit := by
  obtain ⟨hall, hqueue, hen⟩ := h
  exact ⟨hdoes.windowFits_records hen hall, (State.windowsLaw hen hall).does hdoes ⟨hqueue, hen⟩⟩

/-! ## The join controller's lists (R40, R47, R50) -/

/-- The filters, the candidate list and the re-offer list keep their capacities. -/
def JoinController.fits (j : JoinController) : Prop :=
  j.filters.length = 4 ∧ j.candidates.length ≤ 8 ∧ j.reoffers.length ≤ 4 ∧ j.reoffers.Nodup

theorem State.appendCandidate_join (s : State) (c : Candidate) :
    (s.appendCandidate c).join.candidates =
      if s.join.candidates.length < 8 then s.join.candidates ++ [c] else s.join.candidates := by
  unfold State.appendCandidate
  split
  · rename_i hroom
    exact (if_pos hroom).symm
  · rename_i hroom
    rw [State.raise_join]
    exact (if_neg hroom).symm

theorem State.returnCandidate_candidates_length {s : State} (h : s.join.candidates.length ≤ 8) (o : Option Offer) :
    (s.returnCandidate o).join.candidates.length ≤ 8 := by
  unfold State.returnCandidate
  split
  · rw [State.appendCandidate_join]
    split
    · rw [List.length_append]
      assumption
    · exact h
  · exact h

theorem JoinController.fits.returnCandidate {s : State} (h : s.join.fits) (o : Option Offer) : (s.returnCandidate o).join.fits := by
  obtain ⟨hfilters, hcandidates, hreoffers⟩ := h
  have hlen := State.returnCandidate_candidates_length hcandidates o
  rw [State.returnCandidate_eq]
  exact ⟨hfilters, hlen, hreoffers⟩

theorem JoinController.fits.thin {j : JoinController} (h : j.fits) {cs : List Candidate} (hcs : cs.length ≤ j.candidates.length) :
    JoinController.fits { j with candidates := cs } :=
  ⟨h.1, hcs.trans h.2.1, h.2.2⟩

theorem State.RecordMove.joinFits {s t : State} (hmove : s.RecordMove t) (h : s.join.fits) : t.join.fits := by
  cases hmove with
  | notice => rw [State.queueNotice_join]; exact h
  | raise => rw [State.raise_join]; exact h
  | alarms t moves => rw [State.AlarmMove.eq moves]; exact h
  | release p => exact JoinController.fits.returnCandidate (s := s.enterEmpty p .vacant) h _
  | expireOffer p =>
    refine JoinController.fits.returnCandidate ?_ _
    rw [State.queueNotice_join]
    exact h
  | offer p c => exact h.thin (List.length_filter_le _ _)
  | reoffer id =>
    obtain ⟨hfilters, hcandidates, hreoffers, hnodup⟩ := h
    unfold State.reoffer
    split_ifs with hlisted hroom
    · exact ⟨hfilters, hcandidates, hreoffers, hnodup⟩
    · refine ⟨hfilters, hcandidates, ?_, List.nodup_append.mpr ⟨hnodup, List.nodup_singleton _, ?_⟩⟩
      · rw [State.setReoffers_join, List.length_append]
        exact hroom
      · intro a ha b hb hab
        rw [List.mem_singleton.mp hb] at hab
        exact hlisted (hab ▸ ha)
    · exact ⟨hfilters, hcandidates, hreoffers, hnodup⟩
  | refresh e => exact h.thin (le_of_eq (List.length_map _))
  | newCandidate c _ _ room =>
    obtain ⟨hfilters, _, hreoffers⟩ := h
    exact ⟨hfilters, by rw [State.setCandidates_join, List.length_append]; exact room, hreoffers⟩
  | ageOut => exact h.thin (List.length_filter_le _ _)
  | countOffer => rw [State.countOffer_eq]; exact h
  | accept => rw [State.accept_eq]; exact h
  | runEngine => rw [State.runEngine_eq]; exact h
  | finish => rw [State.finish_eq]; exact h
  | _ => exact h

theorem State.changeToConfig_join (s : State) :
    s.changeToConfig.join = { s.join with candidates := [], reoffers := [] } := by
  have hset : ∀ t : State, (t.halted.enterMode .config).join = t.join := fun _ => rfl
  rw [State.changeToConfig_eq, State.noticeMode, State.queueNotice_join, hset, State.joinToConfig_eq]
  rfl

theorem State.Does.joinFits {s t : State} (hdoes : s.Does t) (h : s.join.fits) : t.join.fits := by
  have emptied : JoinController.fits { s.join with reoffers := [] } := ⟨h.1, h.2.1, Nat.zero_le _, List.nodup_nil⟩
  cases hdoes with
  | records _ move => exact move.joinFits h
  | begin => exact emptied
  | leaveConfig => exact emptied
  | changeMode m =>
    change JoinController.fits { ((s.emptyWindows.enterMode m).noticeMode m).join with reoffers := [] }
    rw [State.noticeMode, State.queueNotice_join]
    exact emptied
  | toConfig =>
    rw [State.changeToConfig_join]
    exact ⟨h.1, Nat.zero_le _, Nat.zero_le _, List.nodup_nil⟩
  | axle => rw [State.storeAxle_eq]; exact h
  | filter i f => exact ⟨by rw [List.length_set]; exact h.1, h.2⟩
  | _ => exact h

/-! ## The join marks (R28, R34) -/

/-- A join slot has at most four marks. -/
def JoinMarks.fits (j : JoinMarks) : Prop :=
  j.slot33.length ≤ 4 ∧ j.slot34.length ≤ 4 ∧ j.slot35.length ≤ 4 ∧ j.slot36.length ≤ 4

theorem JoinMarks.fits.add {j : JoinMarks} (h : j.fits) {slot : Nat} (hroom : (j.get slot).length < 4) (id : SensorId) :
    (j.add slot id).fits := by
  obtain ⟨h33, h34, h35, h36⟩ := h
  unfold JoinMarks.get at hroom
  unfold JoinMarks.add JoinMarks.fits
  split_ifs at hroom ⊢
  · exact ⟨by rw [List.length_append]; exact hroom, h34, h35, h36⟩
  · exact ⟨h33, by rw [List.length_append]; exact hroom, h35, h36⟩
  · exact ⟨h33, h34, by rw [List.length_append]; exact hroom, h36⟩
  · exact ⟨h33, h34, h35, by rw [List.length_append]; exact hroom⟩
  · exact ⟨h33, h34, h35, h36⟩

theorem State.accept_link (s : State) (t : Telegram) (slot : Nat) (ch : Channel) :
    (s.accept t slot ch).link = s.link.mark t slot := by rw [State.accept_eq]

theorem LinkReceiver.mark_fits {s : State} {t : Telegram} {slot : Nat} (ok : s.judgeArrival t slot = .accepted)
    (h : s.link.joinMarks.fits) : (s.link.mark t slot).joinMarks.fits := by
  have hnew := (State.judgeArrival_room ok).2.2
  unfold State.duplicate at hnew
  unfold LinkReceiver.mark
  cases hkind : t.kind with
  | report => exact h
  | join =>
    rw [hkind] at hnew
    exact h.add (Nat.lt_of_not_le (of_decide_eq_false (Bool.or_eq_false_iff.mp hnew).2)) _

theorem State.RecordMove.marksFit {s t : State} (hmove : s.RecordMove t) (h : s.link.joinMarks.fits) : t.link.joinMarks.fits := by
  cases hmove with
  | accept u slot ch ok => rw [State.accept_link]; exact LinkReceiver.mark_fits ok h
  | notice => rw [State.queueNotice_link]; exact h
  | raise => rw [State.raise_link]; exact h
  | alarms t moves => rw [State.AlarmMove.eq moves]; exact h
  | release => rw [State.returnCandidate_eq]; exact h
  | expireOffer =>
    rw [State.expireOffer, State.returnCandidate_eq]
    change (State.queueNotice _ _ _).link.joinMarks.fits
    rw [State.queueNotice_link]
    exact h
  | reoffer => rw [State.reoffer_eq]; exact h
  | countOffer => rw [State.countOffer_eq]; exact h
  | runEngine => rw [State.runEngine_eq]; exact h
  | finish => rw [State.finish_eq]; exact h
  | _ => exact h

theorem State.changeToConfig_link (s : State) : s.changeToConfig.link = LinkReceiver.clear := by
  rw [State.changeToConfig_eq, State.noticeMode, State.queueNotice_link]
  rfl

theorem clear_marksFit : LinkReceiver.clear.joinMarks.fits := ⟨Nat.zero_le _, Nat.zero_le _, Nat.zero_le _, Nat.zero_le _⟩

theorem State.Does.marksFit {s t : State} (hdoes : s.Does t) (h : s.link.joinMarks.fits) : t.link.joinMarks.fits := by
  cases hdoes with
  | records _ move => exact move.marksFit h
  | handOver => exact clear_marksFit
  | changeMode m =>
    change ((s.emptyWindows.enterMode m).noticeMode m).link.joinMarks.fits
    rw [State.noticeMode, State.queueNotice_link]
    exact h
  | toConfig => rw [State.changeToConfig_link]; exact clear_marksFit
  | axle => rw [State.storeAxle_eq]; exact h
  | _ => exact h

/-! ## The notice store, the beacon, the receiver, the axle plan (R2, R51, R137, R151) -/

theorem NoticeStore.Moves.length_le {st u : NoticeStore} (hmoves : st.Moves u) (h : st.entries.length ≤ 8) :
    u.entries.length ≤ 8 := by
  induction hmoves with
  | refl => exact h
  | tail _ hstep ih =>
    cases hstep with
    | withdraw f => rw [NoticeStore.withdraw_entries]; exact (List.length_filter_le _ _).trans ih
    | take n p => exact NoticeStore.take_length ih n p
    | readings => exact ih

theorem State.Event.entries_length {s t : State} (hevent : s.Event t) (h : s.store.entries.length ≤ 8) :
    t.store.entries.length ≤ 8 := by
  cases hevent with
  | works _ hworks => exact hworks.store_moves.length_le h
  | command u kind a _ hworks =>
    rw [State.reply_eq]
    have hmoved := NoticeStore.Moves.length_le (st := s.taking.store) hworks.store_moves h
    exact hmoved
  | boundary =>
    change s.store.boundary.entries.length ≤ 8
    unfold NoticeStore.boundary
    split
    · exact h
    · rw [NoticeStore.choose_entries_length]; exact h
    · rw [NoticeStore.choose_entries_length]; exact (List.length_filter_le _ _).trans h
  | warmRestart =>
    change s.store.warm.entries.length ≤ 8
    rw [NoticeStore.warm_eq]
    exact Nat.le_of_ble_eq_true rfl
  | coldReset => exact Nat.le_of_ble_eq_true rfl
  | release =>
    change s.store.chooseIfIdle.entries.length ≤ 8
    unfold NoticeStore.chooseIfIdle
    split
    · rw [NoticeStore.choose_entries_length]; exact h
    · exact h

theorem State.offerPlaces_length (s : State) : s.offerPlaces.length ≤ 4 := List.length_take_le _ _

theorem State.begun_offersFit (s : State) : s.begun.seq.offersFit = true := decide_eq_true (State.offerPlaces_length _)

theorem State.changeToConfig_seq (s : State) : s.changeToConfig.seq = s.seq.stop := by
  have hset : ∀ t : State, (t.halted.enterMode .config).seq = t.seq.stop := fun _ => rfl
  rw [State.changeToConfig_eq, State.noticeMode, State.queueNotice_seq, hset, State.joinToConfig_eq]
  rfl

theorem State.Does.offersFit {s t : State} (hdoes : s.Does t) (h : s.seq.offersFit = true) : t.seq.offersFit = true := by
  cases hdoes with
  | records _ move => rw [move.eq]; exact h
  | begin => exact s.begun_offersFit
  | leaveConfig m => exact State.begun_offersFit _
  | changeMode m => exact State.begun_offersFit _
  | toConfig => rw [State.changeToConfig_seq]; rfl
  | axle => rw [State.storeAxle_eq]; exact h
  | _ => exact h

theorem ControlPort.changeMode_receiver (c : ControlPort) (old new : Mode) : (c.changeMode old new).receiver = c.receiver := by
  unfold ControlPort.changeMode
  split_ifs <;> rfl

theorem State.changeToConfig_port (s : State) : s.changeToConfig.port = s.port.changeMode s.modes.mode .config := by
  have hset : ∀ t : State, (t.halted.enterMode .config).port = t.port.changeMode t.modes.mode .config := fun _ => rfl
  rw [State.changeToConfig_eq, State.noticeMode, State.queueNotice_port, hset, State.joinToConfig_eq]
  rfl

theorem State.Does.receiverFits {s t : State} (hdoes : s.Does t) (h : s.port.receiver.fits = true) : t.port.receiver.fits = true := by
  cases hdoes with
  | records _ move => rw [move.eq]; exact h
  | leaveConfig m =>
    change (s.port.changeMode s.modes.mode m).receiver.fits = true
    rw [ControlPort.changeMode_receiver]
    exact h
  | changeMode m =>
    change ((s.emptyWindows.enterMode m).noticeMode m).port.receiver.fits = true
    rw [State.noticeMode, State.queueNotice_port]
    change (s.port.changeMode s.modes.mode m).receiver.fits = true
    rw [ControlPort.changeMode_receiver]
    exact h
  | toConfig => rw [State.changeToConfig_port, ControlPort.changeMode_receiver]; exact h
  | axle => rw [State.storeAxle_eq]; exact h
  | goodFrame => rfl
  | assemble r fits => exact fits h
  | abandon => rfl
  | _ => exact h

theorem State.changeToConfig_axles (s : State) : s.changeToConfig.axles = s.axles := by
  have hset : ∀ t : State, (t.halted.enterMode .config).axles = t.axles := fun _ => rfl
  rw [State.changeToConfig_eq, State.noticeMode, State.queueNotice_axles, hset, State.joinToConfig_eq]
  rfl

theorem State.Does.axles_length {s t : State} (hdoes : s.Does t) : t.axles.length = s.axles.length := by
  cases hdoes with
  | records _ move => rw [move.eq]
  | changeMode m => exact congrArg List.length (State.queueNotice_axles _ _ _)
  | toConfig => rw [State.changeToConfig_axles]
  | axle => rw [State.storeAxle_eq]; simp
  | _ => rfl

/-! ## Every capacity -/

/-- Work on the part keeps every list but the notice store's within its capacity. -/
structure State.ListsFit (s : State) : Prop where
  positions : s.positions.length = 32
  axles : s.axles.length = 8
  join : s.join.fits
  marks : s.link.joinMarks.fits
  windows : s.WindowsFit
  offers : s.seq.offersFit = true
  receiver : s.port.receiver.fits = true

theorem State.Does.listsFit {s t : State} (hdoes : s.Does t) (h : s.ListsFit) : t.ListsFit where
  positions := hdoes.changes.length_eq.symm.trans h.positions
  axles := hdoes.axles_length.trans h.axles
  join := hdoes.joinFits h.join
  marks := hdoes.marksFit h.marks
  windows := hdoes.windowsFit h.windows
  offers := hdoes.offersFit h.offers
  receiver := hdoes.receiverFits h.receiver

theorem State.Works.listsFit {s t : State} (hworks : s.Works t) (h : s.ListsFit) : t.ListsFit := by
  induction hworks with
  | refl => exact h
  | tail _ hstep ih => exact hstep.listsFit ih

theorem Position.warm_windowFits (f : FrameNo) (r : Position) : (Position.warm f r).windowFits = true := by
  unfold Position.warm
  split <;> rfl

theorem coldReset_positions {r : Position} (h : r ∈ State.coldReset.positions) : r = Position.cold := List.eq_of_mem_replicate h

theorem coldReset_listsFit : State.coldReset.ListsFit where
  positions := List.length_replicate
  axles := List.length_replicate
  join := ⟨List.length_replicate, Nat.zero_le _, Nat.zero_le _, List.nodup_nil⟩
  marks := clear_marksFit
  windows := ⟨fun r h => by rw [coldReset_positions h]; rfl, Nat.zero_le _, rfl⟩
  offers := rfl
  receiver := rfl

theorem State.Event.listsFit {s t : State} (hevent : s.Event t) (h : s.ListsFit) : t.ListsFit := by
  obtain ⟨hpositions, haxles, hjoin, hmarks, hwindows, hoffers, hreceiver⟩ := h
  cases hevent with
  | works _ hworks => exact hworks.listsFit ⟨hpositions, haxles, hjoin, hmarks, hwindows, hoffers, hreceiver⟩
  | command u kind a _ hworks =>
    have hu := hworks.listsFit (s := s.taking) ⟨hpositions, haxles, hjoin, hmarks, hwindows, hoffers, rfl⟩
    exact ⟨hu.positions, hu.axles, hu.join, hu.marks, hu.windows, hu.offers, hu.receiver⟩
  | boundary => exact ⟨hpositions, haxles, hjoin, hmarks, hwindows, hoffers, hreceiver⟩
  | warmRestart =>
    refine ⟨(List.length_map _).trans hpositions, haxles, ⟨hjoin.1, Nat.zero_le _, Nat.zero_le _, List.nodup_nil⟩,
      clear_marksFit, ⟨fun r hr => ?_, Nat.zero_le _, rfl⟩, rfl, hreceiver⟩
    obtain ⟨r', _, rfl⟩ := List.mem_map.mp hr
    exact Position.warm_windowFits _ _
  | coldReset =>
    have hcold := coldReset_listsFit
    exact ⟨hcold.positions, hcold.axles, hcold.join, hcold.marks, hcold.windows, hcold.offers, hcold.receiver⟩
  | release => exact ⟨hpositions, haxles, hjoin, hmarks, hwindows, hoffers, hreceiver⟩

theorem State.capacities_iff (s : State) : s.Capacities ↔ s.ListsFit ∧ s.store.entries.length ≤ 8 := by
  constructor
  · rintro ⟨hpos, hax, hfil, hcan, hreo, hnodup, hqueue, hstore, h33, h34, h35, h36, hwin, hen, hoff, hrec⟩
    exact ⟨⟨hpos, hax, ⟨hfil, hcan, hreo, hnodup⟩, ⟨h33, h34, h35, h36⟩, ⟨List.all_eq_true.mp hwin, hqueue, hen⟩, hoff, hrec⟩,
      hstore⟩
  · rintro ⟨⟨hpos, hax, ⟨hfil, hcan, hreo, hnodup⟩, ⟨h33, h34, h35, h36⟩, ⟨hwin, hqueue, hen⟩, hoff, hrec⟩, hstore⟩
    exact ⟨hpos, hax, hfil, hcan, hreo, hnodup, hqueue, hstore, h33, h34, h35, h36, List.all_eq_true.mpr hwin, hen, hoff, hrec⟩

/-- Settles O52: each operation keeps each list, and every move of the store keeps its entries, within the capacity. -/
theorem stepKeepsCapacities : Obligations.StepKeepsCapacities := by
  unfold Obligations.StepKeepsCapacities
  intro s t hs hstep
  refine step_keeps (Q := State.Capacities) (fun _ _ h => h) (fun s t hevent h => ?_) hs hstep
  obtain ⟨hlists, hstore⟩ := s.capacities_iff.mp h
  exact t.capacities_iff.mpr ⟨hevent.listsFit hlists, hevent.entries_length hstore⟩

end Sys2Proof.Machine

/-! PROOF. The values that the tables of the manual bound, through every event (R2, R5, R19, R65, R69, R80, R103, R137, R150). -/

namespace Sys2Proof.Machine

open Relation (ReflTransGen)

/-! ## Per-kind tables -/

theorem PerKind.get_put {α : Type} (t : PerKind α) (k j : Kind) (a : α) :
    (t.put k a).get j = if j = k then a else t.get j := by
  cases k <;> cases j <;> rfl

@[simp] theorem PerKind.get_const {α : Type} (a : α) (k : Kind) : (PerKind.const a).get k = a := by
  cases k <;> rfl

/-! ## The results of an assessment (R85 to R92) -/

theorem clampInt_range {lo hi : Int} (h : lo ≤ hi) (n : Int) : lo ≤ clampInt lo hi n ∧ clampInt lo hi n ≤ hi := by
  unfold clampInt
  split_ifs <;> omega

theorem natWithin_iff {lo hi : Nat} {o : Option Nat} : natWithin lo hi o = true ↔ ∀ n, o = some n → lo ≤ n ∧ n ≤ hi := by
  cases o <;> simp [natWithin]

theorem intWithin_iff {lo hi : Int} {o : Option Int} : intWithin lo hi o = true ↔ ∀ n, o = some n → lo ≤ n ∧ n ≤ hi := by
  cases o <;> simp [intWithin]

theorem windowInRange_iff {w : List Sample} : windowInRange w = true ↔ ∀ x ∈ w, x.cold ≤ 4000 := by
  simp [windowInRange]

theorem pressureOf_le {code : BitVec 12} {n : Nat} (h : pressureOf code = some n) : n ≤ 4094 := by
  have hlt := code.isLt
  unfold pressureOf at h
  split at h
  · cases h
  · cases h
    omega

theorem temperatureOf_range {code : BitVec 8} {t : Int} (h : temperatureOf code = some t) : -50 ≤ t ∧ t ≤ 204 := by
  have hlt := code.isLt
  unfold temperatureOf at h
  split at h
  · cases h
  · cases h
    omega

theorem hotGauge_le {pc ambient : Nat} (hpc : pc ≤ 4094) (ha : 50 ≤ ambient) : (hotGauge pc ambient).1 ≤ 4044 := by
  unfold hotGauge
  split
  · exact Nat.zero_le _
  · change pc - ambient ≤ 4044
    omega

theorem coldGauge_le (pc ambient tref : Nat) (t : Int) : (coldGauge pc ambient tref t).1 ≤ 4000 := by
  have h := clampInt_range (lo := 0) (hi := 4000) (by decide) (coldAbsolute pc tref t - (ambient : Int))
  change (clampInt 0 4000 _).toNat ≤ 4000
  omega

theorem nextWindow_inRange {w : List Sample} (h : windowInRange w = true) {pg : Option Nat} (hpg : ∀ g, pg = some g → g ≤ 4000)
    (load : LoadState) (i : Nat) (f : FrameNo) : windowInRange (nextWindow load i f pg w) = true := by
  rw [windowInRange_iff] at h ⊢
  have new : ∀ g, pg = some g → ∀ ys : List Sample, (∀ x ∈ ys, x.cold ≤ 4000) → ∀ x ∈ ys ++ [⟨f, g⟩], x.cold ≤ 4000 := by
    intro g hg ys hys x hx
    rcases List.mem_append.mp hx with hx | hx
    · exact hys x hx
    · rw [List.mem_singleton.mp hx]
      exact hpg g hg
  unfold nextWindow
  split
  · rename_i g
    have hone := new g rfl [] (fun _ h => absurd h List.not_mem_nil)
    split
    · exact h
    · unfold considerSample
      split
      · exact hone
      · split_ifs
        · exact hone
        · unfold appendSample
          split
          · exact new g rfl _ fun x hx => h x (List.mem_of_mem_drop hx)
          · exact new g rfl _ h
        · exact h
  · exact h

theorem lossRate_range {w : List Sample} {period : Nat} {x : Int} (h : (lossRate w period).1 = some x) : -999 ≤ x ∧ x ≤ 999 := by
  unfold lossRate at h
  split_ifs at h
  split at h
  · cases h
    exact clampInt_range (by decide) _
  · cases h

/-- The results of an assessment lie in the ranges of the record they are written to (R5, R86). -/
structure Results.inRange (r : Results) : Prop where
  hot : ∀ n, r.hot = some n → n ≤ 4044
  cold : ∀ n, r.cold = some n → n ≤ 4000
  temperature : ∀ t, r.temperature = some t → -50 ≤ t ∧ t ≤ 204
  history : windowInRange r.history = true
  rate : ∀ x, r.rate = some x → -999 ≤ x ∧ x ≤ 999

theorem Capture.inRange_ambient {c : Capture} (h : c.inRange = true) : 50 ≤ c.ambient ∧ c.ambient ≤ 110 := by
  simp only [Capture.inRange, Bool.and_eq_true] at h
  exact of_decide_eq_true h.1.1.1.1.1.1

theorem Capture.inRange_history {c : Capture} (h : c.inRange = true) : windowInRange c.history = true := by
  simp only [Capture.inRange, Bool.and_eq_true] at h
  exact h.1.2

theorem assess_inRange (e : QueueEntry) {c : Capture} (h : c.inRange = true) : (assess e c).inRange := by
  have hcold : ∀ n, (assess e c).cold = some n → n ≤ 4000 := by
    intro n hn
    simp only [assess, Option.map_eq_some_iff, Option.bind_eq_some_iff] at hn
    obtain ⟨_, ⟨_, _, _, _, rfl⟩, rfl⟩ := hn
    exact coldGauge_le _ _ _ _
  refine ⟨fun n hn => ?_, hcold, fun t ht => temperatureOf_range ht, ?_, fun x hx => ?_⟩
  · simp only [assess, Option.map_eq_some_iff] at hn
    obtain ⟨_, ⟨p, hp, rfl⟩, rfl⟩ := hn
    exact hotGauge_le (pressureOf_le hp) (Capture.inRange_ambient h).1
  · exact nextWindow_inRange (Capture.inRange_history h) hcold _ _ _
  · simp only [assess] at hx
    split at hx
    · exact lossRate_range hx
    · cases hx

theorem handedResults_inRange (w : InFlight) {c : Capture} (h : c.inRange = true) (m : Mode) : (handedResults w c m).inRange := by
  have hall := assess_inRange w.entry h
  unfold handedResults
  split
  · exact ⟨hall.hot, hall.cold, hall.temperature, rfl, fun _ hx => absurd hx (Option.some_ne_none _).symm⟩
  · exact hall

/-! ## The records (R5, R9) -/

/-- The wheel data of a record lie in their ranges. -/
structure WheelData.inRange (w : WheelData) : Prop where
  hot : natWithin 0 4044 w.hotGauge = true
  cold : natWithin 0 4000 w.coldGauge = true
  temperature : intWithin (-50) 204 w.temperature = true
  rate : intWithin (-999) 999 w.lossRate = true
  history : windowInRange w.history = true

theorem Position.inRange_iff (r : Position) : r.inRange = true ↔
    r.wheel.inRange ∧ natWithin 0 6 (r.offer.map Offer.remaining) = true ∧ natWithin 0 150 r.learn = true := by
  simp only [Position.inRange, Bool.and_eq_true]
  constructor
  · rintro ⟨⟨⟨⟨⟨⟨hhot, hcold⟩, htemp⟩, hrate⟩, hhistory⟩, hoffer⟩, hlearn⟩
    exact ⟨⟨hhot, hcold, htemp, hrate, hhistory⟩, hoffer, hlearn⟩
  · rintro ⟨⟨hhot, hcold, htemp, hrate, hhistory⟩, hoffer, hlearn⟩
    exact ⟨⟨⟨⟨⟨⟨hhot, hcold⟩, htemp⟩, hrate⟩, hhistory⟩, hoffer⟩, hlearn⟩

theorem WheelData.inRange.emptied {w : WheelData} (h : w.inRange) : WheelData.inRange { w with history := [] } :=
  ⟨h.hot, h.cold, h.temperature, h.rate, rfl⟩

theorem WheelData.inRange.taken {r : Results} (h : r.inRange) (w : WheelData) (e : QueueEntry) : (w.taken e r).inRange where
  hot := natWithin_iff.mpr fun n hn => ⟨Nat.zero_le _, h.hot n hn⟩
  cold := natWithin_iff.mpr fun n hn => ⟨Nat.zero_le _, h.cold n hn⟩
  temperature := intWithin_iff.mpr h.temperature
  rate := intWithin_iff.mpr h.rate
  history := h.history

theorem Engine.inRange_capture {w : InFlight} {c : Capture} (h : Engine.inRange (.busy w) = true) (hc : w.capture = some c) :
    c.inRange = true := by
  simp only [Engine.inRange, hc, Bool.and_eq_true] at h
  exact h.2

theorem Position.emptied_inRange (x : PosState) (f : FrameNo) : (Position.emptied x f).inRange = true := rfl

theorem Position.Settles.inRange {n : Nat} {K : PerKind KindSetting} {m : Mode} {f : FrameNo} {en : Engine} {r r' : Position}
    (h : Position.Settles n K m f en r r') (hen : en.inRange = true) (hr : r.inRange = true) : r'.inRange = true := by
  obtain ⟨hwheel, hoffer, hlearn⟩ := r.inRange_iff.mp hr
  cases h with
  | vacated => rfl
  | offerCounted o hsome =>
    rw [hsome] at hoffer
    have hle := (natWithin_iff.mp hoffer o.remaining rfl).2
    refine (Position.inRange_iff _).mpr ⟨hwheel, natWithin_iff.mpr fun n hn => ?_, hlearn⟩
    cases hn
    exact ⟨Nat.zero_le _, (Nat.sub_le _ _).trans hle⟩
  | learnCounted =>
    unfold Position.countLearn
    split
    · rename_i k _ hk
      rw [hk] at hlearn
      have hle := (natWithin_iff.mp hlearn _ rfl).2
      refine (Position.inRange_iff _).mpr ⟨hwheel, hoffer, natWithin_iff.mpr fun n hn => ?_⟩
      cases hn
      exact ⟨Nat.zero_le _, (Nat.sub_le _ _).trans hle⟩
    · exact hr
  | reentered => unfold Position.reenter; split <;> exact hr
  | heard ch =>
    unfold Position.heard
    dsimp only
    split
    · exact (Position.inRange_iff _).mpr ⟨⟨hwheel.hot, hwheel.cold, hwheel.temperature, hwheel.rate, rfl⟩, rfl, hlearn⟩
    · exact hr
    · exact hr
  | written w c busy report =>
    rw [busy] at hen
    exact (Position.inRange_iff _).mpr
      ⟨.taken (handedResults_inRange w (Engine.inRange_capture hen report) m) _ _, hoffer, hlearn⟩
  | _ => exact hr

theorem Position.Becomes.inRange {n : Nat} {K : PerKind KindSetting} {m : Mode} {f : FrameNo} {en : Engine} {r r' : Position}
    (h : Position.Becomes n K m f en r r') (hen : en.inRange = true) (hr : r.inRange = true) : r'.inRange = true := by
  obtain ⟨hwheel, hoffer, hlearn⟩ := r.inRange_iff.mp hr
  cases h with
  | settles _ h => exact h.inRange hen hr
  | learning => exact (Position.inRange_iff _).mpr ⟨hwheel, hoffer, rfl⟩
  | offered => exact (Position.inRange_iff _).mpr ⟨hwheel, rfl, rfl⟩

theorem Position.emptyWindow_inRange {r : Position} (h : r.inRange = true) : r.emptyWindow.inRange = true := by
  obtain ⟨hwheel, hrest⟩ := r.inRange_iff.mp h
  exact (Position.inRange_iff _).mpr ⟨hwheel.emptied, hrest⟩

theorem Position.Turns.inRange {m : Mode} {f : FrameNo} {r r' : Position} (h : Position.Turns m f r r') (hr : r.inRange = true) :
    r'.inRange = true := by
  cases h with
  | vacated => rfl
  | emptyWindow => exact Position.emptyWindow_inRange hr
  | toConfig =>
    unfold Position.toConfig
    dsimp only
    split <;> exact Position.emptyWindow_inRange hr
  | fittedTo fits =>
    unfold Position.fittedTo
    split_ifs
    · rfl
    · exact hr
    · exact hr
    · rfl

theorem Position.Changes.inRange {n : Nat} {K : PerKind KindSetting} {m : Mode} {f : FrameNo} {en : Engine} {r r' : Position}
    (h : Position.Changes n K m f en r r') (hen : en.inRange = true) (hr : r.inRange = true) : r'.inRange = true := by
  cases h with
  | becomes h => exact h.inRange hen hr
  | turns h => exact h.inRange hr

/-! ## The queue and the engine (R65, R69) -/

/-- What an assessment captures lies in its range (R69). -/
structure State.SourcesInRange (s : State) : Prop where
  records : ∀ r ∈ s.positions, r.inRange = true
  axles : ∀ a ∈ s.axles, a.inRange = true
  limits : s.config.limits.inRange = true
  ambient : ambientInRange s.config.ambient = true
  period : 1 ≤ s.seq.period ∧ s.seq.period ≤ 16
  silenceLimit : silenceLimitInRange s.seq.silenceLimit = true

theorem effectivePeriod_inRange {p : Nat} (h : 1 ≤ p ∧ p ≤ 16) (m : Mode) : periodInRange (effectivePeriod m p) = true := by
  unfold effectivePeriod
  split <;> exact decide_eq_true (by omega)

theorem State.axleOf_inRange {s : State} (h : ∀ a ∈ s.axles, a.inRange = true) (p : Nat) : (s.axleOf p).inRange = true := by
  unfold State.axleOf
  rw [List.getD_eq_getElem?_getD]
  cases ha : s.axles[p / 4]? with
  | none => rfl
  | some a => exact h a (List.mem_of_getElem? ha)

theorem State.capture_inRange {s : State} (h : s.SourcesInRange) (e : QueueEntry) : (s.capture e).inRange = true := by
  have hpos := fun p => State.pos_of_all (P := fun r => r.inRange = true) rfl h.records p
  have hhistory := ((Position.inRange_iff _).mp (hpos e.position)).1.history
  have hpartner := ((Position.inRange_iff _).mp (hpos (partnerOf e.position))).1.cold
  unfold State.capture Capture.inRange
  dsimp only
  rw [h.ambient, h.limits, effectivePeriod_inRange h.period, h.silenceLimit, State.axleOf_inRange h.axles, hhistory]
  cases (s.axleOf e.position).twin with
  | true => exact hpartner
  | false => rfl

theorem Engine.voidFor_inRange (e : Engine) (p : Nat) : (e.voidFor p).inRange = e.inRange := by
  cases e with
  | idle => rfl
  | busy w => unfold Engine.voidFor; dsimp only; split <;> rfl

theorem Engine.markHistory_inRange (e : Engine) : e.markHistory.inRange = e.inRange := by
  cases e <;> rfl

theorem State.Becomes.inRange {s : State} {r r' : Position} (h : s.Becomes r r') (hen : s.engine.inRange = true)
    (hr : r.inRange = true) : r'.inRange = true := by
  induction h with
  | refl => exact hr
  | tail _ hstep ih => exact hstep.inRange hen ih

theorem State.rangesLaw {s : State} (h : s.SourcesInRange) (hen : s.engine.inRange = true) :
    EngineLaw s (fun q en => (∀ e ∈ q, e.inRange = true) ∧ en.inRange = true) where
  void p h := ⟨h.1, (Engine.voidFor_inRange _ p).trans h.2⟩
  mark h := ⟨h.1, (Engine.markHistory_inRange _).trans h.2⟩
  halt h := ⟨fun _ h => absurd h List.not_mem_nil, h.2⟩
  idle h := ⟨h.1, rfl⟩
  arrive e _ hslot h := by
    refine ⟨fun x hx => ?_, h.2⟩
    rcases List.mem_append.mp hx with hx | hx
    · exact h.1 x hx
    · rw [List.mem_singleton.mp hx]
      exact decide_eq_true hslot
  start {passed e rest rs} hrs hq := by
    refine ⟨fun x hx => hq.1 x (List.mem_append_right _ (List.mem_cons_of_mem _ hx)), ?_⟩
    have hentry : e.inRange = true := hq.1 e (List.mem_append_right _ List.mem_cons_self)
    have hsources : State.SourcesInRange { s with positions := rs } :=
      ⟨forall₂_all (P := fun r => r.inRange = true) (fun _ _ hb hr => State.Becomes.inRange hb hen hr) hrs h.records,
        h.axles, h.limits, h.ambient, h.period, h.silenceLimit⟩
    have hcapture := State.capture_inRange hsources e
    unfold State.start Engine.inRange
    dsimp only
    rw [hentry, Bool.true_and]
    cases e.telegram.kind with
    | report => exact hcapture
    | join => rfl

/-! ## The frame sequencer (R19) and the settings -/

/-- The frame sequencer's values lie in their ranges (R19). -/
structure Sequencer.inRange (q : Sequencer) : Prop where
  period : 1 ≤ q.period ∧ q.period ≤ 16
  timer : q.timer.inRange = true
  silenceLimit : silenceLimitInRange q.silenceLimit = true
  downlink : storedWordAllowed q.downlink = true

theorem Sequencer.inRange.begun {s : State} (h : s.seq.inRange) : s.begun.seq.inRange :=
  ⟨h.period, effectivePeriod_inRange h.period _, h.silenceLimit, h.downlink⟩

theorem State.Does.seqInRange {s t : State} (hdoes : s.Does t) (h : s.seq.inRange) : t.seq.inRange := by
  cases hdoes with
  | records _ move => rw [move.eq]; exact h
  | begin => exact h.begun
  | leaveConfig m => exact Sequencer.inRange.begun (s := s.emptyWindows.enterMode m) h
  | changeMode m =>
    refine Sequencer.inRange.begun (s := (s.emptyWindows.enterMode m).noticeMode m) ?_
    rw [State.noticeMode, State.queueNotice_seq]
    exact h
  | toConfig => rw [State.changeToConfig_seq]; exact ⟨h.period, rfl, h.silenceLimit, h.downlink⟩
  | axle => rw [State.storeAxle_eq]; exact h
  | link period limit code hperiod hlimit => exact ⟨hperiod, h.timer, hlimit, h.downlink⟩
  | downlink v allowed =>
    refine ⟨h.period, h.timer, h.silenceLimit, ?_⟩
    cases v with
    | park => exact absurd rfl allowed
    | _ => rfl
  | _ => exact ⟨h.period, h.timer, h.silenceLimit, h.downlink⟩

theorem State.changeToConfig_settings (s : State) :
    s.changeToConfig.config = s.config ∧ s.changeToConfig.kinds = s.kinds := by
  have hset : ∀ t : State, (t.halted.enterMode .config).config = t.config ∧ (t.halted.enterMode .config).kinds = t.kinds :=
    fun _ => ⟨rfl, rfl⟩
  rw [State.changeToConfig_eq, State.noticeMode, State.queueNotice_config, State.queueNotice_kinds, (hset _).1, (hset _).2,
    State.joinToConfig_eq]
  exact ⟨rfl, rfl⟩

/-- The axle plan, the limits and the ambient, the kind settings and the host-silence limit lie in their ranges (R2, R80, R103,
R150). -/
structure State.SettingsInRange (s : State) : Prop where
  axles : ∀ a ∈ s.axles, a.inRange = true
  limits : s.config.limits.inRange = true
  ambient : ambientInRange s.config.ambient = true
  kinds : ∀ k, (s.kinds.get k).inRange k = true
  hostLimit : s.port.silenceLimit ≤ 60

theorem ControlPort.changeMode_silenceLimit (c : ControlPort) (old new : Mode) :
    (c.changeMode old new).silenceLimit = c.silenceLimit := by
  unfold ControlPort.changeMode
  split_ifs <;> rfl

theorem State.Does.settingsInRange {s t : State} (hdoes : s.Does t) (h : s.SettingsInRange) : t.SettingsInRange := by
  obtain ⟨haxles, hlimits, hambient, hkinds, hhost⟩ := h
  cases hdoes with
  | records _ move => rw [move.eq]; exact ⟨haxles, hlimits, hambient, hkinds, hhost⟩
  | leaveConfig m =>
    exact ⟨haxles, hlimits, hambient, hkinds, (ControlPort.changeMode_silenceLimit _ _ _).trans_le hhost⟩
  | changeMode m =>
    have hbegun : ∀ u : State, u.SettingsInRange → u.begun.SettingsInRange := fun u hu => ⟨hu.1, hu.2, hu.3, hu.4, hu.5⟩
    refine hbegun _ ?_
    rw [State.noticeMode, State.queueNotice_eq]
    exact ⟨haxles, hlimits, hambient, hkinds, (ControlPort.changeMode_silenceLimit _ _ _).trans_le hhost⟩
  | toConfig =>
    refine ⟨?_, ?_, ?_, ?_, ?_⟩
    · rwa [State.changeToConfig_axles]
    · rwa [s.changeToConfig_settings.1]
    · rwa [s.changeToConfig_settings.1]
    · rwa [s.changeToConfig_settings.2]
    · rwa [State.changeToConfig_port, ControlPort.changeMode_silenceLimit]
  | axle a entry ranged =>
    rw [State.storeAxle_eq]
    refine ⟨fun x hx => ?_, hlimits, hambient, hkinds, hhost⟩
    rcases List.mem_or_eq_of_mem_set hx with hx | hx
    · exact haxles x hx
    · exact hx ▸ ranged
  | ambient a ranged => exact ⟨haxles, hlimits, ranged, hkinds, hhost⟩
  | limits l ranged => exact ⟨haxles, ranged, hambient, hkinds, hhost⟩
  | kind k x ranged =>
    refine ⟨haxles, hlimits, hambient, fun j => ?_, hhost⟩
    change (PerKind.get (s.kinds.put k x) j).inRange j = true
    rw [PerKind.get_put]
    split
    · rename_i hjk
      exact hjk ▸ ranged
    · exact hkinds j
  | hostLimit limit ranged => exact ⟨haxles, hlimits, hambient, hkinds, ranged⟩
  | _ => exact ⟨haxles, hlimits, hambient, hkinds, hhost⟩

/-! ## Every range -/

/-- Every bounded value but the priority numbers lies in its range. -/
structure State.ValuesInRange (s : State) : Prop where
  records : ∀ r ∈ s.positions, r.inRange = true
  settings : s.SettingsInRange
  seq : s.seq.inRange
  queue : ∀ e ∈ s.queue, e.inRange = true
  engine : s.engine.inRange = true

theorem State.Does.valuesInRange {s t : State} (hdoes : s.Does t) (h : s.ValuesInRange) : t.ValuesInRange := by
  have hsources : s.SourcesInRange :=
    ⟨h.records, h.settings.axles, h.settings.limits, h.settings.ambient, h.seq.period, h.seq.silenceLimit⟩
  obtain ⟨hqueue, hengine⟩ := (State.rangesLaw hsources h.engine).does hdoes ⟨h.queue, h.engine⟩
  refine ⟨?_, hdoes.settingsInRange h.settings, hdoes.seqInRange h.seq, hqueue, hengine⟩
  refine forall₂_all (P := fun r => r.inRange = true) (fun r r' hstar hr => ?_) hdoes.changes h.records
  induction hstar with
  | refl => exact hr
  | tail _ hstep ih => exact hstep.inRange h.engine ih

theorem State.Works.valuesInRange {s t : State} (hworks : s.Works t) (h : s.ValuesInRange) : t.ValuesInRange := by
  induction hworks with
  | refl => exact h
  | tail _ hstep ih => exact hstep.valuesInRange ih

theorem Position.warm_inRange (f : FrameNo) (r : Position) : (Position.warm f r).inRange = true := by
  unfold Position.warm
  split <;> rfl

theorem coldKinds_inRange (k : Kind) : (coldKinds.get k).inRange k = true := by
  cases k <;> rfl

theorem coldReset_valuesInRange : State.coldReset.ValuesInRange where
  records := fun r h => by rw [coldReset_positions h]; rfl
  settings := ⟨fun a h => by rw [List.eq_of_mem_replicate h]; rfl, rfl, rfl, coldKinds_inRange, Nat.zero_le _⟩
  seq := ⟨by decide, rfl, rfl, rfl⟩
  queue := fun _ h => absurd h List.not_mem_nil
  engine := rfl

theorem State.Event.valuesInRange {s t : State} (hevent : s.Event t) (h : s.ValuesInRange) : t.ValuesInRange := by
  have ⟨hrecords, hsettings, hseq, hqueue, hengine⟩ := h
  cases hevent with
  | works _ hworks => exact hworks.valuesInRange h
  | command u kind a _ hworks =>
    have hu := hworks.valuesInRange (s := s.taking) ⟨hrecords, ⟨hsettings.1, hsettings.2, hsettings.3, hsettings.4, hsettings.5⟩,
      hseq, hqueue, hengine⟩
    exact ⟨hu.records, ⟨hu.settings.1, hu.settings.2, hu.settings.3, hu.settings.4, hu.settings.5⟩, hu.seq, hu.queue, hu.engine⟩
  | boundary => exact ⟨hrecords, ⟨hsettings.1, hsettings.2, hsettings.3, hsettings.4, hsettings.5⟩, hseq, hqueue, hengine⟩
  | warmRestart =>
    refine ⟨fun r hr => ?_, ⟨hsettings.1, hsettings.2, hsettings.3, hsettings.4, hsettings.5⟩,
      ⟨hseq.period, rfl, hseq.silenceLimit, rfl⟩, fun _ h => absurd h List.not_mem_nil, rfl⟩
    obtain ⟨r', _, rfl⟩ := List.mem_map.mp hr
    exact Position.warm_inRange _ _
  | coldReset =>
    have hcold := coldReset_valuesInRange
    exact ⟨hcold.records, ⟨hcold.settings.1, hcold.settings.2, hcold.settings.3, hcold.settings.4, hcold.settings.5⟩, hcold.seq,
      hcold.queue, hcold.engine⟩
  | release => exact ⟨hrecords, ⟨hsettings.1, hsettings.2, hsettings.3, hsettings.4, hsettings.5⟩, hseq, hqueue, hengine⟩

/-- Every entry's priority number suits its notice (R137). -/
def prioritiesFit (es : List Entry) : Prop := ∀ e ∈ es, e.priorityFits = true

theorem prioritiesFit_law : EntriesLaw prioritiesFit where
  thin hsub h := fun e he => h e (hsub.subset he)
  mark {es e₀} hn h := by
    obtain ⟨older, younger, hes, _, _, _, hmark⟩ := nextWaiting_split hn
    rw [hmark]
    rw [hes] at h
    intro e he
    rcases List.mem_append.mp he with he | he
    · exact h e (List.mem_append_left _ he)
    · rcases List.mem_cons.mp he with rfl | he
      · have hmarked := h e₀ (List.mem_append_right _ List.mem_cons_self)
        exact hmarked
      · exact h e (List.mem_append_right _ (List.mem_cons_of_mem _ he))
  enter h _ fits := by
    intro e he
    rcases List.mem_append.mp he with he | he
    · exact h e he
    · rw [List.mem_singleton.mp he]
      exact fits

theorem State.inRange_iff (s : State) : s.InRange ↔ s.ValuesInRange ∧ prioritiesFit s.store.entries := by
  constructor
  · rintro ⟨hrecords, haxles, hlimits, hambient, hqueue, hengine, hkinds, hlow, hhigh, htimer, hlimit, hdown, hentries, hhost⟩
    exact ⟨⟨List.all_eq_true.mp hrecords, ⟨List.all_eq_true.mp haxles, hlimits, hambient, hkinds, hhost⟩,
      ⟨⟨hlow, hhigh⟩, htimer, hlimit, hdown⟩, List.all_eq_true.mp hqueue, hengine⟩, List.all_eq_true.mp hentries⟩
  · rintro ⟨⟨hrecords, ⟨haxles, hlimits, hambient, hkinds, hhost⟩, ⟨⟨hlow, hhigh⟩, htimer, hlimit, hdown⟩, hqueue, hengine⟩,
      hentries⟩
    exact ⟨List.all_eq_true.mpr hrecords, List.all_eq_true.mpr haxles, hlimits, hambient, List.all_eq_true.mpr hqueue, hengine,
      hkinds, hlow, hhigh, htimer, hlimit, hdown, List.all_eq_true.mpr hentries, hhost⟩

/-- Settles O55: each operation keeps each value in its range, an assessment because what it captured was in range. -/
theorem stepKeepsRanges : Obligations.StepKeepsRanges := by
  unfold Obligations.StepKeepsRanges
  intro s t hs hstep
  refine step_keeps (Q := State.InRange) (fun _ _ h => h) (fun s t hevent h => ?_) hs hstep
  obtain ⟨hvalues, hentries⟩ := s.inRange_iff.mp h
  refine t.inRange_iff.mpr ⟨hevent.valuesInRange hvalues, prioritiesFit_law.event ?_ ?_ hevent hentries⟩
  · exact fun e he => by rw [List.mem_singleton.mp he]; rfl
  · exact fun e he => by rw [List.mem_singleton.mp he]; rfl

end Sys2Proof.Machine

/-! PROOF. The bindings through every event: who holds which sensor ID, what the candidate list holds (R6, R9, R47, R56). -/

namespace Sys2Proof.Machine

open Relation (ReflTransGen)

/-! ## A record that suits its state (R6, R9, R119) -/

/-- The fields of a record suit its state, one clause per field. -/
structure Position.Suits (r : Position) : Prop where
  holds : r.sensorId.isSome = r.state.hasId
  offer : ∀ o, r.offer = some o → r.state = .offered ∧ r.sensorId = some o.candidate.id ∧ o.remaining ≤ Config.offerBeacons
  offered : r.state = .offered → r.offer ≠ none
  learn : ∀ n, r.learn = some n → r.state = .learning ∧ 1 ≤ n ∧ n ≤ Config.learnFrames
  learning : r.state = .learning → r.learn ≠ none
  alarms : r.state.bound = true ∨ r.alarms = clearAlarms

theorem Position.suits_iff (r : Position) : r.suits = true ↔ r.Suits := by
  unfold Position.suits
  simp only [Bool.and_eq_true, Bool.or_eq_true, beq_iff_eq]
  constructor
  · rintro ⟨⟨⟨hholds, hoffer⟩, hlearn⟩, halarms⟩
    refine ⟨hholds, fun o ho => ?_, fun hs ho => ?_, fun n hn => ?_, fun hs hn => ?_, halarms⟩
    · rw [ho] at hoffer
      simpa [and_assoc] using hoffer
    · rw [ho] at hoffer
      simp [hs] at hoffer
    · rw [hn] at hlearn
      simpa using hlearn
    · rw [hn] at hlearn
      simp [hs] at hlearn
  · rintro ⟨hholds, hoffer, hoffered, hlearn, hlearning, halarms⟩
    refine ⟨⟨⟨hholds, ?_⟩, ?_⟩, halarms⟩
    · cases ho : r.offer with
      | none => simpa using fun hs => hoffered hs ho
      | some o => simpa [and_assoc] using hoffer o ho
    · cases hn : r.learn with
      | none => simpa using fun hs => hlearning hs hn
      | some n => simpa using hlearn n hn

/-- A record with neither an offer nor a learn suits a state that has neither. -/
theorem Position.Suits.settled {r : Position} (holds : r.sensorId.isSome = r.state.hasId) (offer : r.offer = none)
    (learn : r.learn = none) (offered : r.state ≠ .offered) (learning : r.state ≠ .learning)
    (alarms : r.state.bound = true ∨ r.alarms = clearAlarms) : r.Suits :=
  ⟨holds, fun _ ho => absurd (offer.symm.trans ho) (Option.some_ne_none _).symm, fun h => absurd h offered,
    fun _ hn => absurd (learn.symm.trans hn) (Option.some_ne_none _).symm, fun h => absurd h learning, alarms⟩

theorem Position.emptied_suits {x : PosState} (hx : x = .vacant ∨ x = .absent) (f : FrameNo) : (Position.emptied x f).Suits := by
  rcases hx with rfl | rfl <;>
    exact .settled rfl rfl rfl PosState.noConfusion PosState.noConfusion (.inr rfl)

theorem Position.Suits.offer_none {r : Position} (h : r.Suits) (hs : r.state ≠ .offered) : r.offer = none := by
  cases ho : r.offer with
  | none => rfl
  | some o => exact absurd (h.offer o ho).1 hs

theorem Position.Suits.learn_none {r : Position} (h : r.Suits) (hs : r.state ≠ .learning) : r.learn = none := by
  cases hn : r.learn with
  | none => rfl
  | some n => exact absurd (h.learn n hn).1 hs

theorem learnOver_false {r : Position} (h : learnOver r = false) (hs : r.state = .learning) {n : Nat} (hn : r.learn = some n) :
    2 ≤ n := by
  unfold learnOver at h
  rw [hs, hn] at h
  simp at h
  omega

theorem Position.Settles.suits {n : Nat} {K : PerKind KindSetting} {m : Mode} {f : FrameNo} {en : Engine} {r r' : Position}
    (h : Position.Settles n K m f en r r') (hn : n ≤ 32) (hr : r.Suits) : r'.Suits := by
  obtain ⟨hholds, hoffer, hoffered, hlearn, hlearning, halarms⟩ := hr
  cases h with
  | vacated => exact Position.emptied_suits (.inl rfl) _
  | alarm k a bound => exact ⟨hholds, hoffer, hoffered, hlearn, hlearning, .inl bound⟩
  | missing heard =>
    have hsuits : r.Suits := ⟨hholds, hoffer, hoffered, hlearn, hlearning, halarms⟩
    have hne : r.state ≠ .offered ∧ r.state ≠ .learning := by rcases heard with h | h <;> simp [h]
    have hofferNone := hsuits.offer_none hne.1
    have hlearnNone := hsuits.learn_none hne.2
    refine .settled ?_ hofferNone hlearnNone (by simp) (by simp) (.inl rfl)
    rcases heard with h | h <;> simpa [h, PosState.hasId] using hholds
  | offerCounted o hsome =>
    refine ⟨hholds, fun x hx => ?_, fun _ h => (Option.some_ne_none _ h).elim, hlearn, hlearning, halarms⟩
    obtain ⟨hs, hid, hle⟩ := hoffer o hsome
    cases hx
    exact ⟨hs, hid, (Nat.sub_le _ _).trans hle⟩
  | learnCounted goes =>
    unfold Position.countLearn
    split
    · rename_i k hs hk
      have htwo := learnOver_false (goes hn) hs hk
      have hle := (hlearn k hk).2.2
      refine ⟨hholds, hoffer, hoffered, fun x hx => ?_, fun _ h => (Option.some_ne_none _ h).elim, halarms⟩
      cases hx
      exact ⟨hs, by omega, by omega⟩
    · exact ⟨hholds, hoffer, hoffered, hlearn, hlearning, halarms⟩
  | reentered =>
    unfold Position.reenter
    split <;> exact ⟨hholds, hoffer, hoffered, hlearn, hlearning, halarms⟩
  | heard ch holds =>
    have hsuits : r.Suits := ⟨hholds, hoffer, hoffered, hlearn, hlearning, halarms⟩
    have hlearnNone := hsuits.learn_none fun h => by rw [h] at holds; cases holds
    rw [holds] at hholds
    unfold Position.heard
    dsimp only
    split
    · exact .settled hholds rfl hlearnNone (by simp) (by simp) (.inl rfl)
    · rename_i hs
      exact .settled (by rw [hs]; exact hholds) (hsuits.offer_none (by simp [hs])) hlearnNone (by simp [hs]) (by simp [hs])
        (.inl (by rw [hs]; rfl))
    · rename_i hno _
      exact .settled hholds (hsuits.offer_none hno) hlearnNone (by simp) (by simp) (.inl rfl)
  | written => exact ⟨hholds, hoffer, hoffered, hlearn, hlearning, halarms⟩

theorem Position.Turns.suits {m : Mode} {f : FrameNo} {r r' : Position} (h : Position.Turns m f r r') (hr : r.Suits) :
    r'.Suits := by
  obtain ⟨hholds, hoffer, hoffered, hlearn, hlearning, halarms⟩ := hr
  cases h with
  | vacated => exact Position.emptied_suits (.inl rfl) _
  | emptyWindow => exact ⟨hholds, hoffer, hoffered, hlearn, hlearning, halarms⟩
  | toConfig =>
    have hsuits : r.Suits := ⟨hholds, hoffer, hoffered, hlearn, hlearning, halarms⟩
    unfold Position.toConfig
    dsimp only
    split
    · rename_i hs
      exact .settled (by rw [hs] at hholds; exact hholds) (hsuits.offer_none (by simp [hs])) (hsuits.learn_none (by simp [hs]))
        (by simp) (by simp) (.inr rfl)
    · rename_i hs
      exact .settled (by rw [hs] at hholds; exact hholds) (hsuits.offer_none (by simp [hs])) (hsuits.learn_none (by simp [hs]))
        (by simp) (by simp) (.inr rfl)
    · exact ⟨hholds, hoffer, hoffered, hlearn, hlearning, .inr rfl⟩
  | fittedTo fits =>
    unfold Position.fittedTo
    split_ifs
    · exact Position.emptied_suits (.inl rfl) _
    · exact ⟨hholds, hoffer, hoffered, hlearn, hlearning, halarms⟩
    · exact ⟨hholds, hoffer, hoffered, hlearn, hlearning, halarms⟩
    · exact Position.emptied_suits (.inr rfl) _

theorem Position.learningIn_suits {r : Position} (h : r.Suits) (hs : r.state = .vacant) (f : FrameNo) : (r.learningIn f).Suits := by
  have hoffer := h.offer_none (by simp [hs])
  obtain ⟨hholds, _, _, _, _, halarms⟩ := h
  rw [hs] at hholds halarms
  refine ⟨hholds, fun o ho => ?_, nofun, fun n hn => ?_, fun _ h => (Option.some_ne_none _ h).elim, ?_⟩
  · rw [show r.offer = some o from ho] at hoffer
    cases hoffer
  · cases hn
    exact ⟨rfl, by decide⟩
  · exact .inr (halarms.resolve_left (by decide))

theorem Position.offeredIn_suits {r : Position} (h : r.Suits) (hs : r.state = .learning ∨ r.state = .vacant) (f : FrameNo)
    (c : Candidate) : (r.offeredIn f c).Suits := by
  have halarms : r.alarms = clearAlarms := h.alarms.resolve_left (by rcases hs with hs | hs <;> simp [hs, PosState.bound])
  refine ⟨rfl, fun o ho => ?_, fun _ h => (Option.some_ne_none _ h).elim, fun n hn => (Option.some_ne_none _ hn.symm).elim,
    nofun, .inr halarms⟩
  cases ho
  exact ⟨rfl, rfl, le_rfl⟩

/-! ## Who holds an ID, by index (R6) -/

theorem State.mem_heldIds {s : State} {id : SensorId} : id ∈ s.heldIds ↔ ∃ p, (s.pos p).sensorId = some id := by
  unfold State.heldIds
  rw [List.mem_filterMap]
  constructor
  · rintro ⟨r, hr, hid⟩
    obtain ⟨p, hp, rfl⟩ := List.mem_iff_getElem.mp hr
    exact ⟨p, by simpa [State.pos, List.getD_eq_getElem?_getD, hp] using hid⟩
  · rintro ⟨p, hid⟩
    have hp : p < s.positions.length := by
      by_contra hlen
      rw [State.pos_of_le (Nat.le_of_not_lt hlen)] at hid
      cases hid
    exact ⟨s.pos p, State.pos_mem hp, hid⟩

/-- No ID is held twice exactly when two positions that hold one are the same (R6). -/
theorem State.heldIds_nodup_iff (s : State) :
    s.heldIds.Nodup ↔ ∀ p q id, (s.pos p).sensorId = some id → (s.pos q).sensorId = some id → p = q := by
  have hpos : ∀ {p} (hp : p < s.positions.length), s.pos p = s.positions[p] := fun hp => by
    simp [State.pos, List.getD_eq_getElem?_getD, hp]
  have hlt : ∀ {p id}, (s.pos p).sensorId = some id → p < s.positions.length := fun {p id} hid => by
    by_contra hlen
    rw [State.pos_of_le (Nat.le_of_not_lt hlen)] at hid
    cases hid
  unfold State.heldIds
  rw [List.Nodup, List.pairwise_filterMap, List.pairwise_iff_getElem]
  constructor
  · intro h p q id hp hq
    have hpl := hlt hp
    have hql := hlt hq
    rw [hpos hpl] at hp
    rw [hpos hql] at hq
    rcases Nat.lt_trichotomy p q with hpq | hpq | hpq
    · exact absurd rfl (h p q hpl hql hpq id hp id hq)
    · exact hpq
    · exact absurd rfl (h q p hql hpl hpq id hq id hp)
  · intro h i j hi hj hij id hid id' hid' heq
    rw [← hpos hi] at hid
    rw [← hpos hj, ← heq] at hid'
    exact absurd (h i j id hid hid') (Nat.ne_of_lt hij)

/-! ## Positions that meet a test (R56) -/

theorem State.countPositions_eq (s : State) (f : PosState → Bool) :
    s.countPositions f = s.positions.countP (fun r => f r.state) := by
  rw [State.countPositions, List.countP_eq_length_filter]

/-- Records of which none newly meets a test do not raise its count. -/
theorem countP_le_of_forall₂ {f : PosState → Bool} : ∀ {rs rs' : List Position},
    List.Forall₂ (fun r r' : Position => f r'.state = true → f r.state = true) rs rs' →
    rs'.countP (fun r => f r.state) ≤ rs.countP (fun r => f r.state)
  | _, _, .nil => le_rfl
  | r :: _, r' :: _, .cons hhead htail => by
    rw [List.countP_cons, List.countP_cons]
    have hrest := countP_le_of_forall₂ htail
    by_cases h' : f r'.state = true
    · simp only [h', hhead h', if_true]
      omega
    · rw [if_neg h']
      omega

theorem State.countPositions_setPos_le (s : State) (p : Nat) (r : Position) (f : PosState → Bool) :
    (s.setPos p r).countPositions f ≤ s.countPositions f + 1 := by
  rw [State.countPositions_eq, State.countPositions_eq, State.setPos_positions]
  by_cases hp : p < s.positions.length
  · rw [List.countP_set hp]
    split <;> split <;> omega
  · rw [List.set_eq_of_length_le (Nat.le_of_not_lt hp)]
    omega

theorem State.countPositions_eq_zero {s : State} (hlen : s.positions.length = 32) (h : s.learningPosition = none) :
    s.countPositions (· == .learning) = 0 := by
  rw [State.countPositions_eq, List.countP_eq_zero]
  intro r hr hlearning
  obtain ⟨p, hp, rfl⟩ := List.mem_iff_getElem.mp hr
  have hnone := List.find?_eq_none.mp h p (mem_allPositions.mpr (hlen ▸ hp))
  simp [State.pos, List.getD_eq_getElem?_getD, hp] at hnone
  simp [hnone] at hlearning

/-! ## The laws of the bindings -/

/-- The laws of the bindings in the terms of the indices. -/
structure State.Bound (s : State) : Prop where
  len : s.positions.length = 32
  suits : ∀ r ∈ s.positions, r.Suits
  once : ∀ p q id, (s.pos p).sensorId = some id → (s.pos q).sensorId = some id → p = q
  listed : (s.join.candidates.map Candidate.id).Nodup
  apart : ∀ c ∈ s.join.candidates, ∀ p, (s.pos p).sensorId ≠ some c.id
  pending : s.countPositions PosState.pendingBind ≤ 4
  learning : s.countPositions (· == .learning) ≤ 1

theorem State.bindingsSound_iff (s : State) : s.BindingsSound ↔ s.Bound := by
  unfold State.BindingsSound
  rw [State.heldIds_nodup_iff, List.all_eq_true]
  simp only [Position.suits_iff, State.mem_heldIds, not_exists]
  exact ⟨fun ⟨hlen, hsuits, honce, hlisted, hapart, hpending, hlearning⟩ =>
      ⟨hlen, hsuits, honce, hlisted, hapart, hpending, hlearning⟩,
    fun ⟨hlen, hsuits, honce, hlisted, hapart, hpending, hlearning⟩ =>
      ⟨hlen, hsuits, honce, hlisted, hapart, hpending, hlearning⟩⟩

theorem State.Bound.pos_suits {s : State} (h : s.Bound) (p : Nat) : (s.pos p).Suits :=
  State.pos_of_all (.settled rfl rfl rfl nofun nofun (.inr rfl)) h.suits p

/-- A record that takes no ID, and does not become LEARNING or OFFERED. -/
structure Position.Frees (r r' : Position) : Prop where
  id : r'.sensorId = none ∨ r'.sensorId = r.sensorId
  pending : r'.state.pendingBind = true → r.state.pendingBind = true
  learning : r'.state = .learning → r.state = .learning

theorem Position.Frees.refl (r : Position) : r.Frees r := ⟨.inr rfl, fun h => h, fun h => h⟩

theorem Position.Frees.trans {a b c : Position} (h : a.Frees b) (h' : b.Frees c) : a.Frees c := by
  refine ⟨?_, fun hc => h.pending (h'.pending hc), fun hc => h.learning (h'.learning hc)⟩
  rcases h'.id with hc | hc
  · exact .inl hc
  · rw [hc]
    exact h.id

theorem Position.Settles.frees {n : Nat} {K : PerKind KindSetting} {m : Mode} {f : FrameNo} {en : Engine} {r r' : Position}
    (h : Position.Settles n K m f en r r') : r.Frees r' := by
  cases h with
  | vacated => exact ⟨.inl rfl, nofun, nofun⟩
  | missing => exact ⟨.inr rfl, nofun, nofun⟩
  | learnCounted => unfold Position.countLearn; split <;> exact ⟨.inr rfl, fun h => h, fun h => h⟩
  | reentered => unfold Position.reenter; split <;> exact ⟨.inr rfl, fun h => h, fun h => h⟩
  | heard =>
    unfold Position.heard
    dsimp only
    split
    · exact ⟨.inr rfl, nofun, nofun⟩
    · exact ⟨.inr rfl, fun h => h, fun h => h⟩
    · exact ⟨.inr rfl, nofun, nofun⟩
  | _ => exact ⟨.inr rfl, fun h => h, fun h => h⟩

theorem Position.Turns.frees {m : Mode} {f : FrameNo} {r r' : Position} (h : Position.Turns m f r r') : r.Frees r' := by
  cases h with
  | vacated => exact ⟨.inl rfl, nofun, nofun⟩
  | emptyWindow => exact ⟨.inr rfl, fun h => h, fun h => h⟩
  | toConfig =>
    unfold Position.toConfig
    dsimp only
    split
    · exact ⟨.inr rfl, nofun, nofun⟩
    · exact ⟨.inr rfl, nofun, nofun⟩
    · exact ⟨.inr rfl, fun h => h, fun h => h⟩
  | fittedTo fits =>
    unfold Position.fittedTo
    split_ifs
    · exact ⟨.inl rfl, nofun, nofun⟩
    · exact .refl _
    · exact .refl _
    · exact ⟨.inl rfl, nofun, nofun⟩

/-- Records that take no ID and become pending nowhere, beside a thinner candidate list, keep the laws. -/
theorem State.Bound.of_frees {s t : State} (h : s.Bound) (hsuits : ∀ r ∈ t.positions, r.Suits)
    (hfrees : List.Forall₂ Position.Frees s.positions t.positions)
    (hlist : (t.join.candidates.map Candidate.id).Sublist (s.join.candidates.map Candidate.id)) : t.Bound := by
  have hid : ∀ {p id}, (t.pos p).sensorId = some id → (s.pos p).sensorId = some id := by
    intro p id hp
    by_cases hlen : p < s.positions.length
    · rcases (State.pos_of_forall₂ hfrees hlen).id with hnone | hsame
      · rw [hnone] at hp
        cases hp
      · rwa [hsame] at hp
    · rw [State.pos_of_le (hfrees.length_eq ▸ Nat.le_of_not_lt hlen)] at hp
      cases hp
  refine ⟨hfrees.length_eq.symm.trans h.len, hsuits, fun p q id hp hq => h.once p q id (hid hp) (hid hq), h.listed.sublist hlist,
    fun c hc p hp => ?_, ?_, ?_⟩
  · obtain ⟨c', hc', hsame⟩ := List.mem_map.mp (hlist.subset (List.mem_map_of_mem hc))
    exact h.apart c' hc' p (hsame ▸ hid hp)
  · rw [State.countPositions_eq]
    exact (countP_le_of_forall₂ (hfrees.imp fun _ _ hf => hf.pending)).trans (State.countPositions_eq s _ ▸ h.pending)
  · rw [State.countPositions_eq]
    refine (countP_le_of_forall₂ (f := (· == .learning)) (hfrees.imp fun _ _ hf => ?_)).trans
      (State.countPositions_eq s (· == .learning) ▸ h.learning)
    simpa using hf.learning

theorem State.Bound.congr {s t : State} (h : s.Bound) (hpos : t.positions = s.positions)
    (hlist : t.join.candidates = s.join.candidates) : t.Bound :=
  h.of_frees (hpos ▸ h.suits) (hpos ▸ forall₂_refl Position.Frees.refl _) (hlist ▸ List.Sublist.refl _)

theorem State.Bound.append {s : State} (h : s.Bound) {c : Candidate} (hnew : ∀ x ∈ s.join.candidates, x.id ≠ c.id)
    (hfree : ∀ p, (s.pos p).sensorId ≠ some c.id) : (s.setCandidates (s.join.candidates ++ [c])).Bound := by
  refine ⟨h.len, h.suits, h.once, ?_, fun x hx p => ?_, h.pending, h.learning⟩
  · rw [State.setCandidates_join, List.map_append, List.nodup_append]
    refine ⟨h.listed, List.nodup_singleton _, fun a ha b hb hab => ?_⟩
    obtain ⟨x, hx, rfl⟩ := List.mem_map.mp ha
    rw [List.map_singleton, List.mem_singleton] at hb
    exact hnew x hx (hab.trans hb)
  · rcases List.mem_append.mp hx with hx | hx
    · exact h.apart x hx p
    · rw [List.mem_singleton.mp hx]
      exact hfree p

/-- A candidate that is neither listed nor held returns to the list (R48). -/
theorem State.Bound.returnCandidate {s : State} (h : s.Bound) {o : Option Offer}
    (hnew : ∀ f, o = some f → (∀ x ∈ s.join.candidates, x.id ≠ f.candidate.id) ∧ ∀ p, (s.pos p).sensorId ≠ some f.candidate.id) :
    (s.returnCandidate o).Bound := by
  unfold State.returnCandidate
  split
  · rename_i f
    unfold State.appendCandidate
    split
    · exact h.append (hnew f rfl).1 (hnew f rfl).2
    · exact h.congr (State.raise_positions _ _) (by rw [State.raise_join])
  · exact h

theorem State.Bound.vacate {s : State} (h : s.Bound) (p : Nat) : (s.enterEmpty p .vacant).Bound := by
  refine h.of_frees ?_ ?_ (List.Sublist.refl _)
  · refine forall₂_all (P := Position.Suits) (R := fun r r' => r.Suits → r'.Suits) (fun _ _ h => h) ?_ h.suits
    exact State.setPos_forall₂ (fun _ h => h) fun _ _ => Position.emptied_suits (.inl rfl) _
  · exact State.setPos_forall₂ Position.Frees.refl fun _ => ⟨.inl rfl, nofun, nofun⟩

theorem State.Bound.offer_apart {s : State} (h : s.Bound) {p : Nat} (hp : p < s.positions.length) {f : Offer}
    (ho : (s.pos p).offer = some f) :
    (∀ x ∈ s.join.candidates, x.id ≠ f.candidate.id) ∧ ∀ q, ((s.enterEmpty p .vacant).pos q).sensorId ≠ some f.candidate.id := by
  have hid := ((h.pos_suits p).offer f ho).2.1
  refine ⟨fun x hx hsame => h.apart x hx p (hsame ▸ hid), fun q hq => ?_⟩
  rw [State.enterEmpty_pos] at hq
  split at hq
  · cases hq
  · rename_i hne
    exact hne ⟨h.once q p _ hq hid, hp⟩

theorem State.Bound.settle {s t : State} (h : s.Bound) (hall : List.Forall₂ s.Settles s.positions t.positions)
    (hlist : (t.join.candidates.map Candidate.id).Sublist (s.join.candidates.map Candidate.id)) : t.Bound := by
  refine h.of_frees ?_ (hall.imp fun _ _ hstar => ?_) hlist
  · refine forall₂_all (P := Position.Suits) (fun r r' hstar hr => ?_) hall h.suits
    induction hstar with
    | refl => exact hr
    | tail _ hstep ih => exact hstep.suits h.len.le ih
  · induction hstar with
    | refl => exact .refl _
    | tail _ hstep ih => exact ih.trans hstep.frees

theorem State.Bound.turn {s t : State} (h : s.Bound) (hall : List.Forall₂ s.Turns s.positions t.positions)
    (hlist : (t.join.candidates.map Candidate.id).Sublist (s.join.candidates.map Candidate.id)) : t.Bound := by
  refine h.of_frees ?_ (hall.imp fun _ _ hstar => ?_) hlist
  · refine forall₂_all (P := Position.Suits) (fun r r' hstar hr => ?_) hall h.suits
    induction hstar with
    | refl => exact hr
    | tail _ hstep ih => exact hstep.suits ih
  · induction hstar with
    | refl => exact .refl _
    | tail _ hstep ih => exact ih.trans hstep.frees

theorem State.Bound.setPos_suits {s : State} (h : s.Bound) (p : Nat) {r : Position} (hr : r.Suits) :
    ∀ x ∈ (s.setPos p r).positions, x.Suits := by
  intro x hx
  rw [State.setPos_positions] at hx
  rcases List.mem_or_eq_of_mem_set hx with hx | hx
  · exact h.suits x hx
  · exact hx ▸ hr

/-- A VACANT position becomes LEARNING where none learns and there is room (R56). -/
theorem State.Bound.learn {s : State} (h : s.Bound) {p : Nat} (hs : (s.pos p).state = .vacant) (hnone : s.learningPosition = none)
    (hroom : s.pendingFull = false) : (s.setPos p ((s.pos p).learningIn s.seq.frameNumber)).Bound := by
  have hid : ∀ q, ((s.setPos p ((s.pos p).learningIn s.seq.frameNumber)).pos q).sensorId = (s.pos q).sensorId := fun q => by
    rw [State.setPos_pos]
    split
    · rename_i hqp
      rw [hqp.1]
      rfl
    · rfl
  refine ⟨(List.length_set ..).trans h.len, h.setPos_suits p (Position.learningIn_suits (h.pos_suits p) hs _), fun a b id ha hb => ?_,
    h.listed, fun c hc q hq => ?_, ?_, ?_⟩
  · rw [hid] at ha hb
    exact h.once a b id ha hb
  · rw [hid] at hq
    exact h.apart c hc q hq
  · have hlt := Nat.lt_of_not_le (of_decide_eq_false hroom)
    exact (State.countPositions_setPos_le _ _ _ _).trans hlt
  · have hzero := State.countPositions_eq_zero h.len hnone
    exact (State.countPositions_setPos_le _ _ _ _).trans (by omega)

theorem findCandidate_mem {id : SensorId} {cs : List Candidate} {c : Candidate} (h : findCandidate id cs = some c) : c ∈ cs :=
  List.mem_of_find?_eq_some h

/-- A listed candidate is offered to the LEARNING position, or to a VACANT one where there is room (R46, R57). -/
theorem State.Bound.offer {s : State} (h : s.Bound) {p : Nat} {c : Candidate} (hlisted : findCandidate c.id s.join.candidates = some c)
    (hfree : (s.pos p).state = .learning ∨ ((s.pos p).state = .vacant ∧ s.pendingFull = false)) : (s.offerTo p c).Bound := by
  have hc := findCandidate_mem hlisted
  have hplain := hfree.imp_right And.left
  have hpos : ∀ q, (s.offerTo p c).pos q = if q = p ∧ p < s.positions.length then (s.pos p).offeredIn s.seq.frameNumber c else s.pos q :=
    fun q => State.setPos_pos (s.setCandidates _) p q _
  have hid : ∀ {q id}, ((s.offerTo p c).pos q).sensorId = some id → (s.pos q).sensorId = some id ∨ (q = p ∧ id = c.id) := by
    intro q id hq
    rw [hpos] at hq
    split at hq
    · rename_i hqp
      exact .inr ⟨hqp.1, (Option.some_inj.mp hq).symm⟩
    · exact .inl hq
  refine ⟨(List.length_set ..).trans h.len,
    h.setPos_suits p (Position.offeredIn_suits (h.pos_suits p) hplain s.seq.frameNumber c), fun a b id ha hb => ?_,
    h.listed.sublist (List.filter_sublist.map _), fun x hx q hq => ?_, ?_, ?_⟩
  · rcases hid ha with ha | ⟨hap, hsame⟩
    · rcases hid hb with hb | ⟨_, hsame⟩
      · exact h.once a b id ha hb
      · exact absurd (hsame ▸ ha) (h.apart c hc a)
    · rcases hid hb with hb | ⟨hbp, _⟩
      · exact absurd (hsame ▸ hb) (h.apart c hc b)
      · exact hap.trans hbp.symm
  · obtain ⟨hx, hne⟩ := List.mem_filter.mp hx
    rcases hid hq with hq | ⟨_, hsame⟩
    · exact h.apart x hx q hq
    · simp [hsame] at hne
  · rcases hfree with hs | ⟨_, hroom⟩
    · rw [State.countPositions_eq]
      refine (countP_le_of_forall₂ (State.setPos_forall₂ (s := s) (fun _ h => h) fun _ _ => ?_)).trans
        (State.countPositions_eq s _ ▸ h.pending)
      rw [hs]
      rfl
    · exact (State.countPositions_setPos_le (s.setCandidates _) _ _ _).trans (Nat.lt_of_not_le (of_decide_eq_false hroom))
  · rw [State.countPositions_eq]
    refine (countP_le_of_forall₂ (f := (· == .learning)) (State.setPos_forall₂ (s := s) (fun _ h => h) fun _ h => ?_)).trans
      (State.countPositions_eq s (· == .learning) ▸ h.learning)
    cases h

/-! ## The laws of the bindings through every event -/

theorem State.RecordMove.bound {s t : State} (hmove : s.RecordMove t) (h : s.Bound) : t.Bound := by
  rcases hmove.settles_or with hall | ⟨p, vacant, hnone, room, _, rfl⟩ | ⟨p, c, listed, free, _, rfl⟩
  · cases hmove with
    | release p fitted =>
      exact (h.vacate p).returnCandidate fun f ho => h.offer_apart (s.lt_of_state_ne_absent fitted) ho
    | expireOffer p offered =>
      have hp := s.lt_of_state_ne_absent (p := p) (by rw [offered]; decide)
      refine State.Bound.returnCandidate ((h.vacate p).congr (State.queueNotice_positions _ _ _) (by rw [State.queueNotice_join]))
        fun f ho => ?_
      obtain ⟨hnew, hfree⟩ := h.offer_apart hp ho
      rw [State.queueNotice_join]
      exact ⟨hnew, fun q => by rw [State.queueNotice_pos]; exact hfree q⟩
    | newCandidate c new free =>
      refine h.append (fun x hx hsame => ?_) fun p hp => ?_
      · have := List.find?_eq_none.mp new x hx
        simp [hsame] at this
      · have hlen : p < s.positions.length := by
          by_contra hlen
          rw [State.pos_of_le (Nat.le_of_not_lt hlen)] at hp
          cases hp
        have hhas : (s.pos p).state.hasId = true := by rw [← (h.pos_suits p).holds, hp]; rfl
        have hheld : ∀ f : PosState → Bool, f (s.pos p).state = true → s.idHeld f c.id = true := fun f hf =>
          List.any_eq_true.mpr ⟨s.pos p, State.pos_mem hlen, by simp [Position.holds, hf, hp]⟩
        have hbound := free PosState.bound (.inl rfl)
        have hoffered := free (· == .offered) (.inr rfl)
        cases hs : (s.pos p).state <;> rw [hs] at hhas hheld <;> cases hhas
        · rw [hheld _ rfl] at hoffered
          cases hoffered
        · rw [hheld _ rfl] at hbound
          cases hbound
        · rw [hheld _ rfl] at hbound
          cases hbound
        · rw [hheld _ rfl] at hbound
          cases hbound
    | refresh e =>
      have hids : ∀ cs : List Candidate,
          (cs.map fun c => if c.id = e.telegram.id then c.refresh e else c).map Candidate.id = cs.map Candidate.id := by
        intro cs
        rw [List.map_map]
        refine List.map_congr_left fun c _ => ?_
        simp only [Function.comp]
        split <;> rfl
      refine h.settle hall ?_
      rw [State.setCandidates_join, hids]
    | ageOut => exact h.settle hall (List.filter_sublist.map _)
    | notice => exact h.settle hall (by rw [State.queueNotice_join])
    | raise => exact h.settle hall (by rw [State.raise_join])
    | alarms t moves =>
      refine h.settle hall ?_
      rw [State.AlarmMove.eq moves]
      exact List.Sublist.refl _
    | offer => exact h.settle hall (List.filter_sublist.map _)
    | reoffer => exact h.settle hall (by rw [State.reoffer_eq]; exact List.Sublist.refl _)
    | countOffer => exact h.settle hall (by rw [State.countOffer_eq])
    | accept => exact h.settle hall (by rw [State.accept_eq])
    | runEngine => exact h.settle hall (by rw [State.runEngine_eq])
    | finish => exact h.settle hall (by rw [State.finish_eq])
    | _ => exact h.settle hall (List.Sublist.refl _)
  · exact h.learn vacant hnone room
  · exact h.offer listed free

theorem State.Does.candidates_sublist {s t : State} (hdoes : s.Does t) (hmove : ¬s.RecordMove t) :
    (t.join.candidates.map Candidate.id).Sublist (s.join.candidates.map Candidate.id) := by
  cases hdoes with
  | records _ move => exact absurd move hmove
  | changeMode m =>
    change (((s.emptyWindows.enterMode m).noticeMode m).join.candidates.map Candidate.id).Sublist _
    rw [State.noticeMode, State.queueNotice_join]
    exact List.Sublist.refl _
  | toConfig => rw [State.changeToConfig_join]; exact List.nil_sublist _
  | axle => rw [State.storeAxle_eq]
  | _ => exact List.Sublist.refl _

theorem State.Does.bound {s t : State} (hdoes : s.Does t) (h : s.Bound) : t.Bound := by
  by_cases hmove : s.RecordMove t
  · exact hmove.bound h
  · exact h.turn (hdoes.turns_or.resolve_left hmove) (hdoes.candidates_sublist hmove)

theorem State.Works.bound {s t : State} (hworks : s.Works t) (h : s.Bound) : t.Bound := by
  induction hworks with
  | refl => exact h
  | tail _ hstep ih => exact hstep.bound ih

theorem Position.warm_suits (f : FrameNo) {r : Position} (h : r.Suits) : (Position.warm f r).Suits := by
  have hholds := h.holds
  unfold Position.warm
  cases hs : r.state <;> rw [hs] at hholds
  case absent => exact Position.emptied_suits (.inr rfl) _
  case vacant => exact Position.emptied_suits (.inl rfl) _
  case learning => exact Position.emptied_suits (.inl rfl) _
  case offered => exact Position.emptied_suits (.inl rfl) _
  case assigned => exact .settled hholds rfl rfl nofun nofun (.inl rfl)
  case active => exact .settled hholds rfl rfl nofun nofun (.inl rfl)
  case missing => exact .settled hholds rfl rfl nofun nofun (.inl rfl)

theorem Position.warm_frees (f : FrameNo) (r : Position) : r.Frees (Position.warm f r) := by
  unfold Position.warm
  split <;> exact ⟨by simp [Position.emptied, Position.cold], nofun, nofun⟩

theorem coldReset_bound : State.coldReset.Bound where
  len := List.length_replicate
  suits r hr := coldReset_positions hr ▸ .settled rfl rfl rfl nofun nofun (.inr rfl)
  once p q id hp := by rw [coldReset_pos] at hp; cases hp
  listed := List.nodup_nil
  apart c hc := absurd hc List.not_mem_nil
  pending := by decide
  learning := by decide

theorem State.Event.bound {s t : State} (hevent : s.Event t) (h : s.Bound) : t.Bound := by
  cases hevent with
  | works _ hworks => exact hworks.bound h
  | command u kind a _ hworks => exact (hworks.bound (s := s.taking) (h.congr rfl rfl)).congr rfl rfl
  | boundary => exact h.congr rfl rfl
  | warmRestart =>
    refine h.of_frees (fun r hr => ?_) (forall₂_map fun r _ => Position.warm_frees _ r) (List.nil_sublist _)
    obtain ⟨r', hr', rfl⟩ := List.mem_map.mp hr
    exact Position.warm_suits _ (h.suits r' hr')
  | coldReset => exact coldReset_bound.congr rfl rfl
  | release => exact h.congr rfl rfl

/-- Settles O56: an operation frees IDs and pending places, or gives one listed candidate a position, or learns where none does. -/
theorem stepKeepsBindings : Obligations.StepKeepsBindings := by
  unfold Obligations.StepKeepsBindings
  intro s t hs hstep
  refine step_keeps (Q := State.BindingsSound) (fun _ _ h => h) (fun s t hevent h => ?_) hs hstep
  exact t.bindingsSound_iff.mpr (hevent.bound (s.bindingsSound_iff.mp h))

end Sys2Proof.Machine

/-! PROOF. The life of a mode and the disagree counts through every event, and the state after reset (R13, R20, R77, R105, R119,
R165, R171). -/

namespace Sys2Proof.Machine

open Relation (ReflTransGen)

/-! ## The disagree counts (R105) -/

/-- Every disagree count of a record is below its kind's confirm count. -/
def Position.Below (K : PerKind KindSetting) (r : Position) : Prop := ∀ k, countBelow k (K.get k) (r.alarms.get k) = true

theorem clearAlarms_get (k : Kind) : clearAlarms.get k = ⟨false, false, 0⟩ := PerKind.get_const _ k

/-- A record whose sub-records are cleared stays below every confirm count that it was below. -/
theorem Position.Below.cleared {K : PerKind KindSetting} {r r' : Position} (h : r.Below K) (hclear : r'.alarms = clearAlarms) :
    r'.Below K := fun k => by
  rw [hclear, clearAlarms_get]
  exact countBelow_zero (h k) _ _

theorem Position.Below.kept {K : PerKind KindSetting} {r r' : Position} (h : r.Below K) (hsame : r'.alarms = r.alarms) :
    r'.Below K := fun k => by
  rw [hsame]
  exact h k

theorem Position.Settles.below {n : Nat} {K : PerKind KindSetting} {m : Mode} {f : FrameNo} {en : Engine} {r r' : Position}
    (h : Position.Settles n K m f en r r') (hr : r.Below K) : r'.Below K := by
  cases h with
  | vacated => exact hr.cleared rfl
  | alarm k a _ below =>
    intro j
    change countBelow j (K.get j) (PerKind.get (r.alarms.put k a) j) = true
    rw [PerKind.get_put]
    split
    · rename_i hjk
      exact hjk ▸ below (hr k)
    · exact hr j
  | learnCounted => exact hr.kept (Position.countLearn_alarms r)
  | reentered => exact hr.kept (Position.reenter_alarms f r)
  | heard ch => exact hr.kept (Position.heard_alarms r f ch)
  | _ => exact hr

theorem Position.toConfig_alarms (f : FrameNo) (r : Position) : (Position.toConfig f r).alarms = clearAlarms := by
  unfold Position.toConfig
  dsimp only
  split <;> rfl

theorem Position.Changes.below {n : Nat} {K : PerKind KindSetting} {m : Mode} {f : FrameNo} {en : Engine} {r r' : Position}
    (h : Position.Changes n K m f en r r') (hr : r.Below K) : r'.Below K := by
  cases h with
  | becomes h =>
    cases h with
    | settles _ h => exact h.below hr
    | learning => exact hr
    | offered => exact hr
  | turns h =>
    cases h with
    | vacated => exact hr.cleared rfl
    | emptyWindow => exact hr
    | toConfig => exact hr.cleared (Position.toConfig_alarms f r)
    | fittedTo fits =>
      unfold Position.fittedTo
      split_ifs
      · exact hr.cleared rfl
      · exact hr
      · exact hr
      · exact hr.cleared rfl

/-! ## A record in CONFIG (R13, R54, R119) -/

/-- A record as CONFIG leaves it: ABSENT, VACANT or ASSIGNED, every sub-record clear, the window empty. -/
structure Position.Quiet (r : Position) : Prop where
  state : r.state = .absent ∨ r.state = .vacant ∨ r.state = .assigned
  alarms : r.alarms = clearAlarms
  history : r.wheel.history = []

theorem Position.emptied_quiet {x : PosState} (hx : x = .vacant ∨ x = .absent) (f : FrameNo) : (Position.emptied x f).Quiet := by
  rcases hx with rfl | rfl
  · exact ⟨.inr (.inl rfl), rfl, rfl⟩
  · exact ⟨.inl rfl, rfl, rfl⟩

theorem handedResults_config (w : InFlight) (c : Capture) : (handedResults w c .config).history = [] := by
  unfold handedResults
  rw [show (Mode.config == Mode.config) = true from rfl, Bool.or_true, if_pos rfl]
  rfl

theorem clearAlarms_put_acknowledged (k : Kind) :
    clearAlarms.put k { clearAlarms.get k with pending := false } = clearAlarms := by
  cases k <;> rfl

theorem Position.Settles.quiet {n : Nat} {K : PerKind KindSetting} {f : FrameNo} {en : Engine} {r r' : Position}
    (h : Position.Settles n K .config f en r r') (hr : r.Quiet) : r'.Quiet := by
  obtain ⟨hstate, halarms, hhistory⟩ := hr
  cases h with
  | vacated => exact Position.emptied_quiet (.inl rfl) _
  | alarm k a _ _ quiet =>
    refine ⟨hstate, ?_, hhistory⟩
    change r.alarms.put k a = clearAlarms
    rw [quiet rfl, halarms]
    exact clearAlarms_put_acknowledged k
  | missing _ runs => exact absurd rfl runs
  | offerCounted => exact ⟨hstate, halarms, hhistory⟩
  | learnCounted => unfold Position.countLearn; split <;> exact ⟨hstate, halarms, hhistory⟩
  | reentered => unfold Position.reenter; split <;> exact ⟨hstate, halarms, hhistory⟩
  | heard _ _ runs => exact absurd rfl runs
  | written w c => exact ⟨hstate, halarms, handedResults_config w c⟩

theorem Position.Becomes.quiet {n : Nat} {K : PerKind KindSetting} {f : FrameNo} {en : Engine} {r r' : Position}
    (h : Position.Becomes n K .config f en r r') (hr : r.Quiet) : r'.Quiet := by
  cases h with
  | settles _ h => exact h.quiet hr
  | learning _ runs => exact absurd rfl runs
  | offered _ _ runs => exact absurd rfl runs

theorem Position.fittedTo_quiet {r : Position} (hr : r.Quiet) (f : FrameNo) (fits : Bool) : (r.fittedTo f fits).Quiet := by
  unfold Position.fittedTo
  split_ifs
  · exact Position.emptied_quiet (.inl rfl) _
  · exact hr
  · exact hr
  · exact Position.emptied_quiet (.inr rfl) _

theorem Position.toConfig_failed_quiet (f : FrameNo) (r : Position) : ((Position.toConfig f r).failed f).Quiet := by
  unfold Position.failed
  split
  · exact Position.emptied_quiet (.inl rfl) _
  · rename_i hsettled
    refine ⟨?_, Position.toConfig_alarms f r, ?_⟩
    · unfold Position.toConfig at hsettled ⊢
      dsimp only at hsettled ⊢
      cases hs : r.state <;> rw [hs] at hsettled <;> simp [Position.emptyWindow, hs, PosState.pendingBind] at hsettled ⊢
    · unfold Position.toConfig
      dsimp only
      split <;> rfl

theorem Position.warm_quiet (f : FrameNo) (r : Position) : (Position.warm f r).Quiet := by
  unfold Position.warm
  split
  · exact Position.emptied_quiet (.inr rfl) _
  · exact Position.emptied_quiet (.inl rfl) _
  · exact Position.emptied_quiet (.inl rfl) _
  · exact Position.emptied_quiet (.inl rfl) _
  · exact ⟨.inr (.inr rfl), rfl, rfl⟩
  · exact ⟨.inr (.inr rfl), rfl, rfl⟩
  · exact ⟨.inr (.inr rfl), rfl, rfl⟩

/-! ## The part in CONFIG and outside it (R20, R165) -/

/-- In CONFIG nothing runs and nothing waits (R13, R20, R54, R77, R119, R160). -/
structure State.ConfigQuiet (s : State) : Prop where
  timer : s.seq.timer = .stopped
  pending : s.modes.pending = none
  queue : s.queue = []
  candidates : s.join.candidates = []
  reoffers : s.join.reoffers = []
  link : s.link = LinkReceiver.clear
  silenceTimer : s.port.silenceTimer = false
  hostSilent : s.port.hostSilent = false
  txKey : s.seq.txKey = false
  joinWork : s.joinWork = .due
  records : ∀ r ∈ s.positions, r.Quiet

/-- Outside CONFIG a frame runs, and RESET is high (R20). -/
def State.FrameRunning (s : State) : Prop :=
  s.seq.timer = .running (effectivePeriod s.modes.mode s.seq.period) ∧ s.resetLow = false

theorem State.modeSound_iff (s : State) :
    s.ModeSound ↔ (s.modes.mode = .config → s.ConfigQuiet) ∧ (s.modes.mode ≠ .config → s.FrameRunning) := by
  unfold State.ModeSound
  split
  · rename_i hm
    constructor
    · rintro ⟨h1, h2, h3, h4, h5, h6, h7, h8, h9, h10, h11⟩
      exact ⟨fun _ => ⟨h1, h2, h3, h4, h5, h6, h7, h8, h9, h10, fun r hr =>
        ⟨(h11 r hr).1, (h11 r hr).2.1, (h11 r hr).2.2⟩⟩, fun hne => absurd hm hne⟩
    · rintro ⟨h, -⟩
      have hq := h hm
      exact ⟨hq.timer, hq.pending, hq.queue, hq.candidates, hq.reoffers, hq.link, hq.silenceTimer, hq.hostSilent, hq.txKey,
        hq.joinWork, fun r hr => ⟨(hq.records r hr).state, (hq.records r hr).alarms, (hq.records r hr).history⟩⟩
  · rename_i hm
    exact ⟨fun h => ⟨fun hc => absurd hc hm, fun _ => h⟩, fun h => h.2 hm⟩

theorem State.RecordMove.quiet_records {s t : State} (hmove : s.RecordMove t) (hm : s.modes.mode = .config)
    (h : ∀ r ∈ s.positions, r.Quiet) : ∀ r ∈ t.positions, r.Quiet := by
  refine forall₂_all (P := Position.Quiet) (fun r r' hstar hr => ?_) hmove.becomes h
  unfold State.Becomes at hstar
  rw [hm] at hstar
  induction hstar with
  | refl => exact hr
  | tail _ hstep ih => exact hstep.quiet ih

/-- In CONFIG no position holds an offer, so none returns a candidate. -/
theorem State.Bound.offer_none {s : State} (h : s.Bound) (hq : ∀ r ∈ s.positions, r.Quiet) (p : Nat) : (s.pos p).offer = none := by
  refine (h.pos_suits p).offer_none fun hs => ?_
  have hp := s.lt_of_state_ne_absent (p := p) (by rw [hs]; decide)
  rcases (hq _ (State.pos_mem hp)).state with h | h | h <;> rw [hs] at h <;> cases h

theorem State.runEngine_of_empty {s : State} (h : s.queue = []) : s.runEngine = s := by
  have htake : s.takeFrom [] = s := by
    change { s with queue := [] } = s
    rw [← h]
  unfold State.runEngine
  split
  · rw [h, htake]
  · rfl

theorem State.RecordMove.configQuiet {s t : State} (hmove : s.RecordMove t) (hm : s.modes.mode = .config) (hb : s.Bound)
    (h : s.ConfigQuiet) : t.ConfigQuiet := by
  have hrecords := hmove.quiet_records hm h.records
  have hlists : t.link = s.link ∧ t.join = s.join ∧ t.queue = s.queue := by
    cases hmove with
    | notice => simp
    | raise => simp
    | alarms t moves => rw [State.AlarmMove.eq moves]; exact ⟨rfl, rfl, rfl⟩
    | release p =>
      rw [hb.offer_none h.records p]
      exact ⟨rfl, rfl, rfl⟩
    | expireOffer _ _ runs => exact absurd hm runs
    | learn _ _ _ _ runs => exact absurd hm runs
    | offer _ _ _ _ runs => exact absurd hm runs
    | reoffer _ runs => exact absurd hm runs
    | refresh _ runs => exact absurd hm runs
    | newCandidate _ _ _ _ runs => exact absurd hm runs
    | ageOut =>
      refine ⟨rfl, ?_, rfl⟩
      unfold State.ageOut
      rw [State.setCandidates_join, h.candidates]
      change { s.join with candidates := [] } = s.join
      rw [← h.candidates]
    | countOffer => rw [State.countOffer_eq]; exact ⟨rfl, rfl, rfl⟩
    | accept _ _ _ _ runs => exact absurd hm runs
    | runEngine => rw [State.runEngine_of_empty h.queue]; exact ⟨rfl, rfl, rfl⟩
    | finish =>
      unfold State.finish
      rw [State.runEngine_of_empty (s := { s with engine := .idle }) h.queue]
      exact ⟨rfl, rfl, rfl⟩
    | _ => exact ⟨rfl, rfl, rfl⟩
  obtain ⟨hlink, hjoin, hqueue⟩ := hlists
  have heq := hmove.eq
  exact { timer := by rw [heq]; exact h.timer, pending := by rw [heq]; exact h.pending, queue := by rw [hqueue]; exact h.queue
          candidates := by rw [hjoin]; exact h.candidates, reoffers := by rw [hjoin]; exact h.reoffers
          link := by rw [hlink]; exact h.link, silenceTimer := by rw [heq]; exact h.silenceTimer
          hostSilent := by rw [heq]; exact h.hostSilent, txKey := by rw [heq]; exact h.txKey
          joinWork := by rw [heq]; exact h.joinWork, records := hrecords }

/-- The bindings, the life of the mode and the disagree counts together. -/
structure State.Sound (s : State) : Prop where
  bound : s.Bound
  quiet : s.modes.mode = .config → s.ConfigQuiet
  running : s.modes.mode ≠ .config → s.FrameRunning
  below : ∀ r ∈ s.positions, r.Below s.kinds

theorem clear_handOver : LinkReceiver.clear.handOver = LinkReceiver.clear := rfl

theorem ControlPort.changeMode_config (c : ControlPort) (old : Mode) :
    c.changeMode old .config = { c with silenceTimer := false, hostSilent := false } := if_pos (.inl rfl)

theorem State.changeToConfig_modes (s : State) : s.changeToConfig.modes = { s.modes with mode := .config, pending := none } := by
  have hset : ∀ t : State, (t.halted.enterMode .config).modes = { t.modes with mode := .config, pending := none } := fun _ => rfl
  rw [State.changeToConfig_eq, State.noticeMode, State.queueNotice_modes, hset, State.joinToConfig_eq]
  rfl

theorem State.changeToConfig_rest (s : State) : s.changeToConfig.queue = [] ∧ s.changeToConfig.joinWork = .due := by
  have hset : ∀ t : State, (t.halted.enterMode .config).queue = [] ∧ (t.halted.enterMode .config).joinWork = .due :=
    fun _ => ⟨rfl, rfl⟩
  rw [State.changeToConfig_eq, State.noticeMode, State.queueNotice_queue, State.queueNotice_joinWork]
  exact hset _

theorem State.exists_pos_of_mem {s : State} {r : Position} (h : r ∈ s.positions) : ∃ p < s.positions.length, s.pos p = r := by
  obtain ⟨p, hp, rfl⟩ := List.mem_iff_getElem.mp h
  exact ⟨p, hp, by simp [State.pos, List.getD_eq_getElem?_getD, hp]⟩

theorem State.changeToConfig_quiet {s : State} (hlen : s.positions.length = 32) : s.changeToConfig.ConfigQuiet := by
  refine { timer := ?_, pending := ?_, queue := s.changeToConfig_rest.1, candidates := ?_, reoffers := ?_
           link := s.changeToConfig_link, silenceTimer := ?_, hostSilent := ?_, txKey := ?_
           joinWork := s.changeToConfig_rest.2, records := fun r hr => ?_ }
  · rw [State.changeToConfig_seq]; rfl
  · rw [State.changeToConfig_modes]
  · rw [State.changeToConfig_join]
  · rw [State.changeToConfig_join]
  · rw [State.changeToConfig_port, ControlPort.changeMode_config]
  · rw [State.changeToConfig_port, ControlPort.changeMode_config]
  · rw [State.changeToConfig_seq]; rfl
  · obtain ⟨q, hq, rfl⟩ := State.exists_pos_of_mem hr
    rw [State.changeToConfig_length] at hq
    rw [State.changeToConfig_pos s hq, if_pos (hlen ▸ hq)]
    exact Position.toConfig_failed_quiet _ _

theorem State.storeAxle_quiet {s : State} {a : Nat} (entry : Axle) (h : ∀ r ∈ s.positions, r.Quiet) :
    ∀ r ∈ (s.storeAxle a entry).positions, r.Quiet := by
  refine foldl_keeps (fun t : State => ∀ r ∈ t.positions, r.Quiet) State.fit (axlePositions a) (fun t p _ ht => ?_)
    { s with axles := s.axles.set (a - 1) entry } h
  have hempty : ∀ {x}, (x = .vacant ∨ x = .absent) → ∀ r ∈ (t.enterEmpty p x).positions, r.Quiet := fun hx r hr => by
    rw [State.enterEmpty_positions] at hr
    rcases List.mem_or_eq_of_mem_set hr with hr | hr
    · exact ht r hr
    · exact hr ▸ Position.emptied_quiet hx _
  unfold State.fit
  split_ifs
  · exact hempty (.inl rfl)
  · exact ht
  · exact ht
  · exact hempty (.inr rfl)

theorem State.Does.quiet {s t : State} (hdoes : s.Does t) (h : s.Sound) (hm : t.modes.mode = .config) : t.ConfigQuiet := by
  have before : s.modes.mode = .config → s.ConfigQuiet := h.quiet
  cases hdoes with
  | records _ move =>
    have hs : s.modes.mode = .config := by rw [move.eq] at hm; exact hm
    exact move.configQuiet hs h.bound (h.quiet hs)
  | joinWork _ runs => exact absurd hm runs
  | beaconLeft =>
    have hq := before hm
    exact ⟨hq.timer, hq.pending, hq.queue, hq.candidates, hq.reoffers, hq.link, hq.silenceTimer, hq.hostSilent, rfl, hq.joinWork,
      hq.records⟩
  | handOver =>
    have hq := before hm
    exact ⟨hq.timer, hq.pending, hq.queue, hq.candidates, hq.reoffers, by rw [hq.link]; rfl, hq.silenceTimer, hq.hostSilent,
      hq.txKey, hq.joinWork, hq.records⟩
  | begin runs => exact absurd hm runs
  | leaveConfig m runs => exact absurd hm runs
  | changeMode m runs =>
    change ((s.emptyWindows.enterMode m).noticeMode m).modes.mode = .config at hm
    rw [State.noticeMode, State.queueNotice_modes] at hm
    exact absurd hm runs
  | toConfig => exact State.changeToConfig_quiet h.bound.len
  | pendMode _ runs => exact absurd hm runs
  | axle a entry _ _ _ config =>
    have hq := before config
    have hrecords := State.storeAxle_quiet (a := a) entry hq.records
    rw [State.storeAxle_eq] at hrecords ⊢
    exact ⟨hq.timer, hq.pending, hq.queue, hq.candidates, hq.reoffers, hq.link, hq.silenceTimer, hq.hostSilent, hq.txKey,
      hq.joinWork, hrecords⟩
  | hostLimit limit =>
    have hq := before hm
    have hstops : watchRuns s.modes.mode limit = false := by rw [show s.modes.mode = .config from hm]; rfl
    exact ⟨hq.timer, hq.pending, hq.queue, hq.candidates, hq.reoffers, hq.link, hstops, hq.hostSilent, hq.txKey, hq.joinWork,
      hq.records⟩
  | goodFrame =>
    have hq := before hm
    have hstops : watchRuns s.modes.mode s.port.silenceLimit = false := by rw [show s.modes.mode = .config from hm]; rfl
    exact ⟨hq.timer, hq.pending, hq.queue, hq.candidates, hq.reoffers, hq.link, hstops, rfl, hq.txKey, hq.joinWork, hq.records⟩
  | hostSilence running =>
    rw [(before hm).silenceTimer] at running
    cases running
  | _ =>
    have hq := before hm
    exact ⟨hq.timer, hq.pending, hq.queue, hq.candidates, hq.reoffers, hq.link, hq.silenceTimer, hq.hostSilent, hq.txKey,
      hq.joinWork, hq.records⟩

theorem State.begun_running {s : State} (high : s.resetLow = false) : s.begun.FrameRunning := ⟨rfl, high⟩

theorem State.Does.running {s t : State} (hdoes : s.Does t) (h : s.modes.mode ≠ .config → s.FrameRunning)
    (hm : t.modes.mode ≠ .config) : t.FrameRunning := by
  cases hdoes with
  | records _ move => rw [move.eq] at hm ⊢; exact h hm
  | begin runs => exact State.begun_running (h runs).2
  | leaveConfig m _ high => exact State.begun_running high
  | changeMode m _ ran =>
    refine State.begun_running ?_
    rw [State.noticeMode, State.queueNotice_resetLow]
    exact (h ran).2
  | toConfig =>
    rw [State.changeToConfig_modes] at hm
    exact absurd rfl hm
  | axle => rw [State.storeAxle_eq] at hm ⊢; exact h hm
  | link _ _ _ _ _ config => exact absurd config hm
  | _ => exact h hm

theorem countBelow_clear {k : Kind} {x : KindSetting} (h : x.inRange k = true) : countBelow k x ⟨false, false, 0⟩ = true := by
  unfold KindSetting.inRange at h
  unfold countBelow
  cases hc : x.confirm with
  | none => rfl
  | some c =>
    rw [hc] at h
    dsimp only
    split
    · rfl
    · rename_i hk
      rw [if_neg hk] at h
      simp [natWithin] at h
      exact decide_eq_true h.1

theorem State.changeToConfig_kinds (s : State) : s.changeToConfig.kinds = s.kinds := s.changeToConfig_settings.2

theorem State.Does.below {s t : State} (hdoes : s.Does t) (h : s.Sound) : ∀ r ∈ t.positions, r.Below t.kinds := by
  have hkept : ∀ r ∈ t.positions, r.Below s.kinds := by
    refine forall₂_all (P := Position.Below s.kinds) (fun r r' hstar hr => ?_) hdoes.changes h.below
    induction hstar with
    | refl => exact hr
    | tail _ hstep ih => exact hstep.below ih
  cases hdoes with
  | kind k x ranged config =>
    intro r hr j
    have hclear := ((h.quiet config).records r hr).alarms
    have hj := hkept r hr j
    change countBelow j (PerKind.get (s.kinds.put k x) j) _ = true
    rw [hclear, clearAlarms_get] at hj ⊢
    rw [PerKind.get_put]
    split
    · rename_i hjk
      exact hjk ▸ countBelow_clear ranged
    · exact hj
  | records _ move => rw [move.eq] at hkept ⊢; exact hkept
  | changeMode m =>
    change ∀ r ∈ ((s.emptyWindows.enterMode m).noticeMode m).positions, r.Below ((s.emptyWindows.enterMode m).noticeMode m).kinds
    rw [State.noticeMode, State.queueNotice_kinds]
    exact hkept
  | toConfig => rw [State.changeToConfig_kinds]; exact hkept
  | axle => rw [State.storeAxle_eq] at hkept ⊢; exact hkept
  | _ => exact hkept

theorem State.Does.sound {s t : State} (hdoes : s.Does t) (h : s.Sound) : t.Sound :=
  ⟨hdoes.bound h.bound, hdoes.quiet h, hdoes.running h.running, hdoes.below h⟩

theorem State.Works.sound {s t : State} (hworks : s.Works t) (h : s.Sound) : t.Sound := by
  induction hworks with
  | refl => exact h
  | tail _ hstep ih => exact hstep.sound ih

/-- The laws read neither LAMP, nor the conditions, nor the store. -/
theorem State.Sound.congr {s t : State} (h : s.Sound)
    (heq : t = { s with lamp := t.lamp, conds := t.conds, store := t.store }) : t.Sound := by
  obtain ⟨hbound, hquiet, hrunning, hbelow⟩ := h
  rw [heq]
  refine ⟨hbound.congr rfl rfl, fun hm => ?_, hrunning, hbelow⟩
  have hq := hquiet hm
  exact ⟨hq.timer, hq.pending, hq.queue, hq.candidates, hq.reoffers, hq.link, hq.silenceTimer, hq.hostSilent, hq.txKey,
    hq.joinWork, hq.records⟩

theorem coldReset_sound : State.coldReset.Sound where
  bound := coldReset_bound
  quiet _ := ⟨rfl, rfl, rfl, rfl, rfl, rfl, rfl, rfl, rfl, rfl, fun _ hr =>
    coldReset_positions hr ▸ ⟨.inl rfl, rfl, rfl⟩⟩
  running hm := absurd rfl hm
  below r hr k := by
    rw [coldReset_positions hr]
    cases k <;> rfl

theorem State.Event.sound {s t : State} (hevent : s.Event t) (h : s.Sound) : t.Sound := by
  cases hevent with
  | works _ hworks => exact hworks.sound h
  | command u kind a _ hworks =>
    have hframed := (State.Does.goodFrame s).sound h
    rw [State.goodFrame_eq] at hframed
    have htaking : s.taking.Sound := hframed.congr rfl
    exact (hworks.sound htaking).congr rfl
  | boundary => exact h.congr rfl
  | warmRestart =>
    have hbound := (State.Event.warmRestart s).bound h.bound
    refine ⟨hbound, fun _ => ⟨rfl, rfl, rfl, rfl, rfl, rfl, rfl, rfl, rfl, rfl, fun r hr => ?_⟩, fun hm => absurd rfl hm,
      fun r hr => ?_⟩
    · obtain ⟨r', _, rfl⟩ := List.mem_map.mp hr
      exact Position.warm_quiet _ _
    · obtain ⟨r', hr', rfl⟩ := List.mem_map.mp hr
      exact (h.below r' hr').cleared (Position.warm_quiet _ _).alarms
  | coldReset =>
    obtain ⟨hbound, hquiet, hrunning, hbelow⟩ := coldReset_sound
    refine ⟨hbound.congr rfl rfl, fun hm => ?_, hrunning, hbelow⟩
    have hq := hquiet hm
    exact ⟨hq.timer, hq.pending, hq.queue, hq.candidates, hq.reoffers, hq.link, hq.silenceTimer, hq.hostSilent, hq.txKey,
      hq.joinWork, hq.records⟩
  | release =>
    obtain ⟨hbound, hquiet, hrunning, hbelow⟩ := h
    refine ⟨hbound.congr rfl rfl, fun hm => ?_, fun hm => ⟨(hrunning hm).1, rfl⟩, hbelow⟩
    have hq := hquiet hm
    exact ⟨hq.timer, hq.pending, hq.queue, hq.candidates, hq.reoffers, hq.link, hq.silenceTimer, hq.hostSilent, hq.txKey,
      hq.joinWork, hq.records⟩

theorem State.sound_iff (s : State) : s.Sound ↔ s.BindingsSound ∧ s.ModeSound ∧ s.CountsBelow := by
  rw [State.bindingsSound_iff, State.modeSound_iff]
  exact ⟨fun ⟨hbound, hquiet, hrunning, hbelow⟩ => ⟨hbound, ⟨hquiet, hrunning⟩, hbelow⟩,
    fun ⟨hbound, ⟨hquiet, hrunning⟩, hbelow⟩ => ⟨hbound, hquiet, hrunning, hbelow⟩⟩

/-- Settles O57: in CONFIG the guards shut out what would start anything; outside it only a frame start moves the timer; a
sub-record's count is cleared or stays below its kind's confirm count. -/
theorem stepKeepsModeAndCounts : Obligations.StepKeepsModeAndCounts := by
  unfold Obligations.StepKeepsModeAndCounts
  intro s t hs hstep
  have hpending : ∀ (s : State) (rest : List Instr), s.Sound → State.Sound { s with pending := rest } := by
    rintro s rest ⟨hbound, hquiet, hrunning, hbelow⟩
    refine ⟨hbound.congr rfl rfl, fun hm => ?_, hrunning, hbelow⟩
    have hq := hquiet hm
    exact ⟨hq.timer, hq.pending, hq.queue, hq.candidates, hq.reoffers, hq.link, hq.silenceTimer, hq.hostSilent, hq.txKey,
      hq.joinWork, hq.records⟩
  have hsound := step_keeps (Q := State.Sound) hpending (fun _ _ hevent h => hevent.sound h) (s.sound_iff.mpr hs) hstep
  exact (t.sound_iff.mp hsound).2

/-! ## The state after reset (R171) -/

theorem reset_capacities : State.reset.Capacities := by
  have hcold := coldReset_listsFit
  exact State.reset.capacities_iff.mpr ⟨⟨hcold.positions, hcold.axles, hcold.join, hcold.marks, hcold.windows, hcold.offers,
    hcold.receiver⟩, Nat.le_of_ble_eq_true rfl⟩

theorem reset_linesTrue : State.reset.LinesTrue :=
  State.reset.linesTrue_iff.mpr ⟨(State.lampRule_config (s := State.reset) rfl).symm, rfl⟩

theorem reset_transmitterSound : State.reset.TransmitterSound :=
  ⟨nofun, ⟨coldResetNotice, 1, .sending⟩, rfl, rfl⟩

theorem reset_inRange : State.reset.InRange := by
  have hcold := coldReset_valuesInRange
  exact State.reset.inRange_iff.mpr ⟨⟨hcold.records, ⟨hcold.settings.axles, hcold.settings.limits, hcold.settings.ambient,
    hcold.settings.kinds, hcold.settings.hostLimit⟩, hcold.seq, hcold.queue, hcold.engine⟩,
    fun e he => by rw [List.mem_singleton.mp he]; rfl⟩

theorem reset_sound : State.reset.Sound := by
  obtain ⟨hbound, hquiet, _, hbelow⟩ := coldReset_sound
  refine ⟨hbound.congr rfl rfl, fun _ => ?_, fun hm => absurd rfl hm, hbelow⟩
  have hq := hquiet rfl
  exact ⟨hq.timer, hq.pending, hq.queue, hq.candidates, hq.reoffers, hq.link, hq.silenceTimer, hq.hostSilent, hq.txKey,
    hq.joinWork, hq.records⟩

/-- Settles O60: the cold state meets each law, and the release moves only RESET and the store. -/
theorem resetMeetsInvariants : Obligations.ResetMeetsInvariants := by
  unfold Obligations.ResetMeetsInvariants
  obtain ⟨hbindings, hmode, hcounts⟩ := State.reset.sound_iff.mp reset_sound
  exact ⟨reset_capacities, reset_linesTrue, reset_transmitterSound, reset_inRange, hbindings, hmode, hcounts,
    coldReset_fittedExactly, fun _ => rfl, List.pairwise_singleton _ _⟩

end Sys2Proof.Machine

/-! PROOF. Cold reset and release, overlapping frames, RESTART and the warm restart (R155, R170, R171). -/

namespace Sys2Proof.Machine

/-! ## Cold reset (R171) -/

/-- While RESET is low a good frame is lost (R171). -/
theorem State.anyFrame_low {s : State} (h : s.resetLow = true) (kind : Byte) (p : List Byte) : s.anyFrame kind p = s := by
  unfold State.anyFrame
  split
  · exact State.commandFrame_low h _ _ _
  · exact if_pos h

/-- In the cold state no event but the release finds anything to do (R171). -/
theorem exec_cold (c : Instr) (q : List Instr) (hc : c ≠ .resetRelease) :
    exec c { State.coldReset with pending := q } = .next { State.coldReset with pending := q } := by
  cases c with
  | resetRelease => exact absurd rfl hc
  | unknownCommand kind p => exact congrArg _ (State.anyFrame_low rfl kind p)
  | hostOverrun kind p => exact congrArg _ (State.anyFrame_low rfl kind p)
  | _ => rfl

/-- Settles O3: while RESET is low no event finds anything to do, and the release only lets the transmitter choose. -/
theorem coldResetHoldsUntilRelease : Obligations.ColdResetHoldsUntilRelease := by
  unfold Obligations.ColdResetHoldsUntilRelease
  refine ⟨fun s => rfl, fun c q hc => exec_cold c q hc, fun q => rfl, fun s high => ?_⟩
  change Host.Outcome.next (if s.resetLow = true then _ else s) = _
  rw [if_neg (Bool.eq_false_iff.mp high)]

/-- After a cold reset only CLAMPED is masked (R135). -/
theorem condIn_coldMask (c : Condition) : condIn c ConditionSet.cold.mask = decide (c = .clamped) := by
  cases c <;> decide

/-- Settles O4: the cold state's fields are the table's. -/
theorem coldResetValues : Obligations.ColdResetValues := by
  unfold Obligations.ColdResetValues
  intro s
  refine ⟨{ State.coldReset with pending := s.pending }, rfl, rfl, ⟨rfl, rfl, rfl, rfl, rfl, rfl, rfl⟩, rfl,
    ⟨List.length_replicate, fun r hr => ?records⟩, ⟨rfl, rfl, rfl, fun n => ?marks⟩, rfl, rfl, rfl, rfl,
    ⟨rfl, rfl, rfl, rfl, rfl, rfl, rfl, rfl, rfl, rfl⟩, ⟨rfl, fun c => ?mask⟩, ⟨rfl, rfl, rfl, rfl, rfl⟩, rfl, rfl⟩
  case records =>
    rw [coldReset_positions hr]
    exact ⟨rfl, rfl, rfl, rfl, rfl, rfl, fun k => clearAlarms_get k⟩
  case marks =>
    change JoinMarks.none.get n = []
    unfold JoinMarks.get
    split_ifs <;> rfl
  case mask => exact condIn_coldMask c

/-! ## A good frame that meets a reply in the buffer (R155) -/

theorem State.anyFrame_overlap {s : State} (high : s.resetLow = false) (h : s.store.reply ≠ .empty) (kind : Byte) (p : List Byte) :
    s.anyFrame kind p = s.framed.raise .hostOverrun := by
  unfold State.anyFrame
  split
  · exact State.commandFrame_overlap high h _ _ _
  · unfold State.unknownFrame
    rw [if_neg (Bool.eq_false_iff.mp high), State.takeFrame_overlap h]

/-- A frame whose check matches is a good frame, whatever its row is called (R154). -/
theorem exec_badCheckFrame_matching {s : State} (high : s.resetLow = false) {kind : Byte} {p : List Byte} {check : BitVec 16}
    (h : crc16 (u8 p.length :: kind :: p) = check) : exec (.badCheckFrame kind p check) s = .next (s.anyFrame kind p) := by
  change Host.Outcome.next (if s.resetLow = true then s else s.judgeFrame (u8 p.length) kind p check) = _
  rw [if_neg (Bool.eq_false_iff.mp high), State.judgeFrame, if_pos h]

/-- Settles O8: each of the rows completes a good frame, and an occupied reply buffer leaves it only HOST_OVERRUN. -/
theorem overlapRaisesHostOverrun : Obligations.OverlapRaisesHostOverrun := by
  unfold Obligations.OverlapRaisesHostOverrun
  intro s high hreply
  refine ⟨fun c p => ?command, fun kind p => ?overrun, fun kind p => ?unknown, fun kind p check hcheck => ?check, ?raised, ?reply⟩
  case command => exact (exec_instr c p s).trans (congrArg _ (State.commandFrame_overlap high hreply c p _))
  case overrun => exact congrArg _ (State.anyFrame_overlap high hreply kind p)
  case unknown => exact congrArg _ (State.anyFrame_overlap high hreply kind p)
  case check => exact (exec_badCheckFrame_matching high hcheck).trans (congrArg _ (State.anyFrame_overlap high hreply kind p))
  case raised =>
    obtain ⟨_, lost, hset⟩ := s.framed.raise_conds .hostOverrun
    simp [hset]
  case reply => exact State.raise_reply _ _

/-! ## RESTART and the warm restart (R170) -/

theorem exec_warmRestart_of_sends {s : State} (h : s.sendsRestart = true) : exec .warmRestart s = .next s.warmRestart :=
  congrArg Host.Outcome.next (if_pos h)

theorem State.warmRestart_eq (s : State) : s.warmRestart = { s with
    seq := { s.seq with timer := .stopped, beacon := none, txKey := false, txData := [], downlink := none }
    link := LinkReceiver.clear
    join := { s.join with candidates := [], reoffers := [] }
    positions := s.positions.map (Position.warm s.seq.frameNumber)
    queue := []
    engine := .idle
    lamp := true
    conds := { s.conds with set := 0#7 }
    store := { s.store with
      entries := [⟨.mode .config .warmRestart, 1, .sending⟩], reply := .empty, transmitter := .sendingNotice
      txd := Notice.frame (.mode .config .warmRestart), attn := true }
    port := { s.port with silenceTimer := false, hostSilent := false }
    modes := { s.modes with mode := .config, pending := none }
    joinWork := .due } := by
  unfold State.warmRestart State.judgeLamp
  rw [State.lampRule_config rfl, NoticeStore.warm_eq]
  rfl

/-- Settles O12: RESTART's owner only answers, and the boundary that ends the answer is the warm restart. -/
theorem restartTakesEffectAfterItsReply : Obligations.RestartTakesEffectAfterItsReply := by
  unfold Obligations.RestartTakesEffectAfterItsReply
  refine ⟨fun s hready => ?restart, fun s hsends => ⟨?boundary, ?warm⟩, fun s hnot => ?none⟩
  case restart => exact exec_instr_onlyAnswers (c := .restart) (a := Answer.done []) hready rfl rfl rfl
  case boundary =>
    rw [exec_warmRestart_of_sends hsends]
    exact congrArg Host.Outcome.next (if_pos hsends)
  case warm =>
    rw [exec_warmRestart_of_sends hsends, State.warmRestart_eq]
    rfl
  case none => exact congrArg Host.Outcome.next (if_neg (Bool.eq_false_iff.mp hnot))

end Sys2Proof.Machine

/-! PROOF. Control frames byte by byte, and the timers of the control port (R151 to R154, R159). -/

namespace Sys2Proof.Machine

/-! ## One byte (R152) -/

section
variable {s : State}

theorem exec_controlByte (high : s.resetLow = false) (b : Byte) : exec (.controlByteReceived b) s = .next (s.takeByte b) :=
  congrArg Host.Outcome.next (if_neg (Bool.eq_false_iff.mp high))

theorem exec_badCheckFrame (high : s.resetLow = false) (kind : Byte) (p : List Byte) (check : BitVec 16) :
    exec (.badCheckFrame kind p check) s = .next (s.judgeFrame (u8 p.length) kind p check) :=
  congrArg Host.Outcome.next (if_neg (Bool.eq_false_iff.mp high))

theorem State.takeByte_hunt (h : s.port.receiver = .hunt) (b : Byte) :
    s.takeByte b = if b = 0xA5#8 then s.assemble .length else s := by
  simp only [State.takeByte, h]

theorem State.takeByte_length (h : s.port.receiver = .length) (b : Byte) :
    s.takeByte b = if b.toNat ≤ 250 then s.assemble (.kind b) else s.abandon := by
  simp only [State.takeByte, h]
  rfl

theorem State.takeByte_kind {l : Byte} (h : s.port.receiver = .kind l) (b : Byte) :
    s.takeByte b = s.assemble (if l = 0#8 then .checkHigh l b [] else .payload l b []) := by
  simp only [State.takeByte, h]
  split <;> rfl

theorem State.takeByte_payload {l k : Byte} {got : List Byte} (h : s.port.receiver = .payload l k got) (b : Byte) :
    s.takeByte b =
      s.assemble (if got.length + 1 = l.toNat then .checkHigh l k (got ++ [b]) else .payload l k (got ++ [b])) := by
  simp only [State.takeByte, h]
  split <;> rfl

theorem State.takeByte_checkHigh {l k : Byte} {p : List Byte} (h : s.port.receiver = .checkHigh l k p) (b : Byte) :
    s.takeByte b = s.assemble (.checkLow l k p b) := by
  simp only [State.takeByte, h]

theorem State.takeByte_checkLow {l k h : Byte} {p : List Byte} (hr : s.port.receiver = .checkLow l k p h) (b : Byte) :
    s.takeByte b = s.judgeFrame l k p (read16 h b) := by
  simp only [State.takeByte, hr]

theorem State.judgeFrame_differs {l k : Byte} {p : List Byte} {check : BitVec 16} (h : crc16 (l :: k :: p) ≠ check) :
    s.judgeFrame l k p check = s.abandon := if_neg h

end

/-- Settles O6: each clause is one state of the receiver, or one timer's row. -/
theorem portBytesAndTimers : Obligations.PortBytesAndTimers := by
  unfold Obligations.PortBytesAndTimers
  intro s high
  have byte := exec_controlByte high
  refine ⟨fun b hr hb => ?hunt, fun hr => ?sync, fun b hr hb => ?length, fun b hr hb => ?tooLong, fun b => rfl, fun l b hr => ?kind,
    fun l k b got hr => ?payload, fun l k b p hr => ?checkHigh, fun l k h b p hr hcheck => ?checkLow, ?gap, fun kind p check hcheck => ?badCheck,
    ?silence⟩
  case hunt => rw [byte, State.takeByte_hunt hr, if_neg hb]
  case sync => rw [byte, State.takeByte_hunt hr, if_pos rfl]; rfl
  case length => rw [byte, State.takeByte_length hr, if_pos hb]; rfl
  case tooLong =>
    change exec (.controlByteReceived b) s = _
    rw [byte, State.takeByte_length hr, if_neg (by omega)]
    rfl
  case kind => rw [byte, State.takeByte_kind hr]; rfl
  case payload => rw [byte, State.takeByte_payload hr]; rfl
  case checkHigh => rw [byte, State.takeByte_checkHigh hr]; rfl
  case checkLow => rw [byte, State.takeByte_checkLow hr, State.judgeFrame_differs hcheck]; rfl
  case gap => rfl
  case badCheck => rw [exec_badCheckFrame high, State.judgeFrame_differs hcheck]; rfl
  case silence =>
    have hlamp : ({ s with port := { s.port with silenceTimer := false, hostSilent := true } } : State).lampRule = true := by
      simp [State.lampRule]
    change Host.Outcome.next (if _ then State.judgeLamp _ else s) = _
    unfold State.judgeLamp
    rw [hlamp]

/-! ## The bytes of a frame (R151, R152) -/

/-- A frame in assembly is gone once the frame is judged: only the good frame's own effect is left. -/
theorem State.takeFrame_congr {s t : State} (h : t.goodFrame = s.goodFrame) (kind : Byte) (work : State → State × Answer) :
    t.takeFrame kind work = s.takeFrame kind work := by
  unfold State.takeFrame
  rw [h]

theorem State.assemble_goodFrame (s : State) (r : Receiver) : (s.assemble r).goodFrame = s.goodFrame := by
  rw [State.goodFrame_eq, State.goodFrame_eq]
  rfl

theorem State.assemble_anyFrame {s : State} (high : s.resetLow = false) (r : Receiver) (kind : Byte) (p : List Byte) :
    (s.assemble r).anyFrame kind p = s.anyFrame kind p := by
  have hlow : ¬s.resetLow = true := Bool.eq_false_iff.mp high
  have hframe := State.takeFrame_congr (s.assemble_goodFrame r)
  unfold State.anyFrame State.commandFrame State.unknownFrame
  simp only [State.assemble_resetLow, if_neg hlow, hframe]
  rfl

theorem State.assemble_judgeFrame {s : State} (high : s.resetLow = false) (r : Receiver) (l k : Byte) (p : List Byte)
    (check : BitVec 16) : (s.assemble r).judgeFrame l k p check = s.judgeFrame l k p check := by
  unfold State.judgeFrame
  rw [State.assemble_anyFrame high]
  rfl

theorem runEvents_byte {s : State} (high : s.resetLow = false) (b : Byte) (rest : List Instr) :
    runEvents (.controlByteReceived b :: rest) s = runEvents rest (s.takeByte b) := by
  simp only [runEvents, exec_controlByte high]

/-- The payload's bytes gather until the frame's length is reached (R152). -/
theorem runEvents_payload {s : State} (high : s.resetLow = false) (l k : Byte) (tail : List Instr) :
    ∀ (bytes got : List Byte), bytes ≠ [] → got.length + bytes.length = l.toNat →
      runEvents (bytes.map .controlByteReceived ++ tail) (s.assemble (.payload l k got)) =
        runEvents tail (s.assemble (.checkHigh l k (got ++ bytes)))
  | [], _, hne, _ => absurd rfl hne
  | b :: bytes, got, _, hlen => by
    rw [List.map_cons, List.cons_append, runEvents_byte (s := s.assemble _) high, State.takeByte_payload rfl]
    cases bytes with
    | nil =>
      rw [if_pos (show got.length + 1 = l.toNat from hlen)]
      rfl
    | cons c bytes =>
      rw [if_neg (by simp at hlen; omega)]
      have hrest := runEvents_payload high l k tail (c :: bytes) (got ++ [b]) (by simp) (by simp at hlen ⊢; omega)
      rw [List.append_assoc] at hrest
      exact hrest

theorem u8_toNat {n : Nat} (h : n ≤ 250) : (u8 n).toNat = n := by
  rw [u8, BitVec.toNat_ofNat]
  omega

/-- The kind byte and the payload of a frame lead to its check (R152). -/
theorem runEvents_body {s : State} (high : s.resetLow = false) (k : Byte) {p : List Byte} (hp : p.length ≤ 250) (tail : List Instr) :
    runEvents (.controlByteReceived k :: (p.map .controlByteReceived ++ tail)) (s.assemble (.kind (u8 p.length))) =
      runEvents tail (s.assemble (.checkHigh (u8 p.length) k p)) := by
  rw [runEvents_byte (s := s.assemble _) high, State.takeByte_kind rfl]
  cases p with
  | nil => rfl
  | cons b p =>
    have hne : ¬u8 (b :: p).length = 0#8 := fun h => by
      have hlen := u8_toNat hp
      rw [h] at hlen
      simp at hlen
    rw [if_neg hne]
    exact runEvents_payload high _ k tail (b :: p) [] (by simp) (by rw [u8_toNat hp]; simp)

theorem read16_bytes16 (x : BitVec 16) : read16 ((x >>> 8).setWidth 8) (x.setWidth 8) = x := by
  apply BitVec.eq_of_getLsbD_eq
  intro i hi
  simp only [read16, BitVec.getLsbD_append, BitVec.getLsbD_setWidth, BitVec.getLsbD_ushiftRight]
  by_cases h8 : i < 8
  · simp [h8]
  · have hlow : i - 8 < 8 := by omega
    have hsum : 8 + (i - 8) = i := by omega
    simp [h8, hlow, hsum]

/-- The bytes of a frame, one after the other, come to the judgement of its check (R152, R154). -/
theorem runEvents_frame {s : State} (high : s.resetLow = false) (hunt : s.port.receiver = .hunt) (k : Byte) {p : List Byte}
    (hp : p.length ≤ 250) (check : BitVec 16) :
    runEvents (([0xA5#8, u8 p.length, k] ++ p ++ bytes16 check).map .controlByteReceived) s =
      .next (s.judgeFrame (u8 p.length) k p check) := by
  have hlen : (u8 p.length).toNat ≤ 250 := by rwa [u8_toNat hp]
  simp only [List.cons_append, List.nil_append, List.map_cons, List.map_append]
  rw [runEvents_byte high, State.takeByte_hunt hunt, if_pos rfl, runEvents_byte (s := s.assemble _) high,
    State.takeByte_length rfl, if_pos hlen]
  refine (runEvents_body high k hp _).trans ?_
  rw [bytes16, List.map_cons, List.map_cons, List.map_nil, runEvents_byte (s := s.assemble _) high, State.takeByte_checkHigh rfl,
    runEvents_byte (s := (s.assemble _).assemble _) high, State.takeByte_checkLow rfl, read16_bytes16]
  exact congrArg Host.Outcome.next (State.assemble_judgeFrame high _ _ _ _ _)

theorem ofKind_code (c : Command) : Command.ofKind c.code = some c := by
  cases c <;> rfl

/-- Settles O5: the bytes come to the judgement of the frame's check, and so does each row of a whole frame. -/
theorem frameBytesTakeTheCommand : Obligations.FrameBytesTakeTheCommand := by
  unfold Obligations.FrameBytesTakeTheCommand
  intro s payload high hunt hlen
  have good : ∀ kind, runEvents ((controlFrame kind payload).map .controlByteReceived) s = .next (s.anyFrame kind payload) :=
    fun kind => (runEvents_frame high hunt kind hlen _).trans (congrArg Host.Outcome.next (if_pos rfl))
  refine ⟨fun c => ?command, fun kind _ => ?unknown, fun kind check _ => ?bad⟩
  case command =>
    rw [good, exec_instr, State.anyFrame, ofKind_code]
  case unknown => exact good kind
  case bad => rw [runEvents_frame high hunt kind hlen, exec_badCheckFrame high]

end Sys2Proof.Machine

/-! PROOF. The commands that store a setting: AMBIENT, LOAD, SENSOR_MODE, SET_READINGS, SET_PORT, SET_LINK, SET_CLASS, SET_FILTER,
SET_MODE (R23, R27, R42, R81, R82, R104, R140, R161, R166). -/

namespace Sys2Proof.Machine

/-- A command that is taken is what its owner makes of it, when the owner leaves the notice store (R155, R156). -/
theorem exec_instr_answered {s t : State} (c : Command) (p : List Byte) {a : Answer} (h : s.Ready)
    (hl : p.length = c.payloadLength) (hm : c.acceptedIn s.modes.mode = true)
    (ho : ownerOf s.port.hostSilent c p s.taking = (t, a)) (ht : t.store = s.taking.store) :
    exec (c.instr p) s = .next { t with store := s.store.replied c.code a } :=
  (exec_instr c p s).trans (congrArg _ (State.commandFrame_answered h hl hm ho ht))

theorem exec_instr_wrongMode {s : State} {c : Command} {p : List Byte} (h : s.Ready) (hl : p.length = c.payloadLength)
    (hm : c.acceptedIn s.modes.mode = false) : exec (c.instr p) s = .next (s.replied c.code ⟨.refused, some .wrongMode, []⟩) :=
  (exec_instr c p s).trans (congrArg _ (State.commandFrame_wrongMode h hl hm _))

/-! ## Operands (R173, R176) -/

theorem u8_toNat_self (b : Byte) : u8 b.toNat = b := by simp [u8]

theorem loadOf_code (l : LoadState) : loadOf l.code = some l := by cases l <;> rfl

theorem loadOf_eq_none {b : Byte} (h : b ∉ [1#8, 2#8, 3#8]) : loadOf b = none := by
  simp only [List.mem_cons, List.not_mem_nil, or_false, not_or] at h
  simp [loadOf, LoadState.code, Ne.symm h.1, Ne.symm h.2.1, Ne.symm h.2.2]

theorem downlinkOf_code {v : DownlinkValue} (h : v ≠ .park) : downlinkOf v.code = some v := by
  cases v with
  | park => exact absurd rfl h
  | _ => rfl

theorem downlinkOf_eq_none {b : Byte} (h : b ∉ [1#8, 2#8, 3#8]) : downlinkOf b = none := by
  simp only [List.mem_cons, List.not_mem_nil, or_false, not_or] at h
  simp [downlinkOf, DownlinkValue.code, Ne.symm h.1, Ne.symm h.2.1, Ne.symm h.2.2]

theorem yesNoOf_yesNo (b : Bool) : yesNoOf (yesNo b) = some b := by cases b <;> rfl

theorem yesNoOf_eq_none {b : Byte} (h : b ∉ [0#8, 1#8]) : yesNoOf b = none := by
  simp only [List.mem_cons, List.not_mem_nil, or_false, not_or] at h
  simp [yesNoOf, h.1, h.2]

theorem modeOf_code (m : Mode) : modeOf m.code = some m := by cases m <;> rfl

theorem modeOf_eq_none {b : Byte} (h : b ∉ [1#8, 2#8, 3#8, 4#8]) : modeOf b = none := by
  simp only [List.mem_cons, List.not_mem_nil, or_false, not_or] at h
  simp [modeOf, Mode.code, Ne.symm h.1, Ne.symm h.2.1, Ne.symm h.2.2.1, Ne.symm h.2.2.2]

theorem kindOf_code (k : Kind) : kindOf k.code = some k := by cases k <;> rfl

theorem Kind.code_range (k : Kind) : 1 ≤ k.code.toNat ∧ k.code.toNat ≤ 10 := by cases k <;> decide

theorem kindOf_eq_none {b : Byte} (h : b.toNat = 0 ∨ 10 < b.toNat) : kindOf b = none := by
  refine List.find?_eq_none.mpr fun k _ hk => ?_
  have hrange := k.code_range
  rw [beq_iff_eq.mp hk] at hrange
  omega

theorem classOf_val {b : Byte} {cls : Fin 3} (h : b.toNat = cls.val) : classOf b = some cls := by
  unfold classOf
  rw [dif_pos (h ▸ cls.isLt)]
  exact congrArg some (Fin.ext h)

theorem classOf_eq_none {b : Byte} (h : 2 < b.toNat) : classOf b = none := dif_neg (by omega)

theorem reportTypeOf_code (t : ReportType) : reportTypeOf t.code = some t := by cases t <;> rfl

theorem reportTypeOf_eq_none {b : Byte} (h : b ∉ [1#8, 2#8]) : reportTypeOf b = none := by
  simp only [List.mem_cons, List.not_mem_nil, or_false, not_or] at h
  simp [reportTypeOf, ReportType.code, Ne.symm h.1, Ne.symm h.2]

/-! ## AMBIENT (R81) -/

/-- Settles O16: the owner clamps and stores, in every mode. -/
theorem ambientClampsAndStores : Obligations.AmbientClampsAndStores := by
  unfold Obligations.AmbientClampsAndStores
  intro s b hready a
  have howner : ownAmbient [b] s.taking = ({ s.taking with config := { s.taking.config with ambient := a } },
      ⟨if a = b.toNat then .done else .clamped, none, [u8 a]⟩) := by
    simp only [ownAmbient, clampNat_eq (show 50 ≤ 110 by omega), Answer.doneOrClamped_bne, a]
  exact exec_instr_answered .ambient [b] hready rfl rfl howner rfl

/-! ## LOAD, SENSOR_MODE, SET_READINGS, SET_PORT (R27, R82, R140, R161) -/

section
variable {s : State}

theorem ownLoad_code (l : LoadState) :
    ownLoad [l.code] s = ({ s with modes := { s.modes with load := l } }, ⟨.done, none, [l.code]⟩) := by
  simp only [ownLoad, loadOf_code, Answer.done]

theorem ownLoad_refused {b : Byte} (h : b ∉ [1#8, 2#8, 3#8]) : ownLoad [b] s = (s, ⟨.refused, some .badArgument, []⟩) := by
  simp only [ownLoad, loadOf_eq_none h, Answer.refused]

theorem ownSensorMode_code {v : DownlinkValue} (h : v ≠ .park) :
    ownSensorMode [v.code] s = ({ s with seq := { s.seq with downlink := some v } }, ⟨.done, none, [v.code]⟩) := by
  simp only [ownSensorMode, downlinkOf_code h, Answer.done]

theorem ownSensorMode_refused {b : Byte} (h : b ∉ [1#8, 2#8, 3#8]) :
    ownSensorMode [b] s = (s, ⟨.refused, some .badArgument, []⟩) := by
  simp only [ownSensorMode, downlinkOf_eq_none h, Answer.refused]

theorem ownSetReadings_yesNo (on : Bool) :
    ownSetReadings [yesNo on] s = ({ s with store := { s.store with readings := on } }, ⟨.done, none, [yesNo on]⟩) := by
  simp only [ownSetReadings, yesNoOf_yesNo, Answer.done]

theorem ownSetReadings_refused {b : Byte} (h : b ∉ [0#8, 1#8]) :
    ownSetReadings [b] s = (s, ⟨.refused, some .badArgument, []⟩) := by
  simp only [ownSetReadings, yesNoOf_eq_none h, Answer.refused]

theorem ownSetPort_eq (b : Byte) :
    ownSetPort [b] s = ({ s with port := { s.port with
        silenceLimit := min 60 b.toNat, silenceTimer := watchRuns s.modes.mode (min 60 b.toNat) } },
      ⟨if b.toNat ≤ 60 then .done else .clamped, none, [u8 (min 60 b.toNat)]⟩) := by
  have hclamp : clampNat 0 60 b.toNat = min 60 b.toNat := (clampNat_eq (by omega) _).trans (by omega)
  have hsame : (min 60 b.toNat = b.toNat) = (b.toNat ≤ 60) := propext min_eq_right_iff
  simp only [ownSetPort, hclamp, Answer.doneOrClamped_bne, hsame]

end

/-- Settles O17: each owner stores its one value or refuses it. -/
theorem oneValueCommandsStore : Obligations.OneValueCommandsStore := by
  unfold Obligations.OneValueCommandsStore
  intro s hready
  refine ⟨fun l => ?load, fun b hb => ?loadRefused, fun v hv => ?word, fun b hb => ?wordRefused, fun on => ?readings,
    fun b hb => ?readingsRefused, fun b => ?port⟩
  case load => exact exec_instr_answered .load [l.code] hready rfl rfl (ownLoad_code l) rfl
  case loadRefused => exact exec_instr_onlyAnswers (c := .load) hready rfl rfl (ownLoad_refused hb)
  case word => exact exec_instr_answered .sensorMode [v.code] hready rfl rfl (ownSensorMode_code hv) rfl
  case wordRefused => exact exec_instr_onlyAnswers (c := .sensorMode) hready rfl rfl (ownSensorMode_refused hb)
  case readings =>
    have hframe := (exec_instr .setReadings [yesNo on] s).trans (congrArg _ (State.commandFrame_ready hready rfl rfl _))
    refine hframe.trans (congrArg Host.Outcome.next ?_)
    rw [show ownerOf s.port.hostSilent .setReadings = ownSetReadings from rfl, ownSetReadings_yesNo, State.reply_eq]
    rfl
  case readingsRefused => exact exec_instr_onlyAnswers (c := .setReadings) hready rfl rfl (ownSetReadings_refused hb)
  case port => exact exec_instr_answered .setPort [b] hready rfl rfl (ownSetPort_eq b) rfl

/-! ## SET_LINK (R23) -/

theorem bytes16_read16 (hi lo : Byte) : bytes16 (read16 hi lo) = [hi, lo] := by
  have hword := toNat_read16 hi lo
  have hhi := hi.isLt
  have hlo := lo.isLt
  have hhigh : (read16 hi lo >>> 8).setWidth 8 = hi := by
    apply BitVec.eq_of_toNat_eq
    rw [BitVec.toNat_setWidth, BitVec.toNat_ushiftRight, Nat.shiftRight_eq_div_pow, hword]
    omega
  have hlow : (read16 hi lo).setWidth 8 = lo := by
    apply BitVec.eq_of_toNat_eq
    rw [BitVec.toNat_setWidth, hword]
    omega
  rw [bytes16, hhigh, hlow]

/-- The result is DONE exactly when what was asked for is stored (R157). -/
theorem Answer.doneOrClamped_not (P : Prop) [Decidable P] (data : List Byte) :
    Answer.doneOrClamped (!decide P) data = ⟨if P then .done else .clamped, none, data⟩ := by
  by_cases h : P <;> simp [Answer.doneOrClamped, h]

theorem ownSetLink_eq {s : State} (p l v1 v0 : Byte) :
    ownSetLink [p, l, v1, v0] s =
      ({ s with seq := { s.seq with period := max 1 (min 16 p.toNat), silenceLimit := max 3 l.toNat, vehicleCode := v1 ++ v0 } },
        ⟨if max 1 (min 16 p.toNat) = p.toNat ∧ max 3 l.toNat = l.toNat then .done else .clamped, none,
          [u8 (max 1 (min 16 p.toNat)), u8 (max 3 l.toNat), v1, v0]⟩) := by
  have hlimit : clampNat 3 255 l.toNat = max 3 l.toNat := (clampNat_eq (by omega) _).trans (by have := l.isLt; omega)
  have hperiod : clampNat 1 16 p.toNat = max 1 (min 16 p.toNat) := clampNat_eq (by omega) _
  have hdone : (max 1 (min 16 p.toNat) != p.toNat || max 3 l.toNat != l.toNat) =
      !decide (max 1 (min 16 p.toNat) = p.toNat ∧ max 3 l.toNat = l.toNat) := by
    rw [Bool.decide_and, Bool.not_and]
    rfl
  simp only [ownSetLink, hlimit, hperiod, hdone, Answer.doneOrClamped_not, bytes16_read16, List.cons_append, List.nil_append]
  rfl

/-- Settles O19: in CONFIG the owner clamps and stores the three settings. -/
theorem setLinkStores : Obligations.SetLinkStores := by
  unfold Obligations.SetLinkStores
  intro s p l v1 v0 hready hconfig period limit
  have hmode : Command.acceptedIn .setLink s.modes.mode = true := by rw [hconfig]; rfl
  exact exec_instr_answered .setLink [p, l, v1, v0] hready rfl hmode (ownSetLink_eq p l v1 v0) rfl

/-! ## SET_CLASS (R104) -/

section
variable {s : State} {kb c t n : Byte}

theorem ownSetClass_refused (h : kb.toNat = 0 ∨ 10 < kb.toNat ∨ 2 < c.toNat ∨ t ∉ [1#8, 2#8]) :
    ownSetClass [kb, c, t, n] s = (s, ⟨.refused, some .badArgument, []⟩) := by
  have hnone : kindOf kb = none ∨ classOf c = none ∨ reportTypeOf t = none := by
    rcases h with h | h | h | h
    · exact .inl (kindOf_eq_none (.inl h))
    · exact .inl (kindOf_eq_none (.inr h))
    · exact .inr (.inl (classOf_eq_none h))
    · exact .inr (.inr (reportTypeOf_eq_none h))
  unfold ownSetClass
  dsimp only
  split
  · rename_i hk hc ht
    simp [hk, hc, ht] at hnone
  · rfl

theorem ownSetClass_code (k : Kind) {cls : Fin 3} (hc : c.toNat = cls.val) (type : ReportType) :
    ownSetClass [k.code, c, type.code, n] s =
      ({ s with kinds := s.kinds.put k ⟨cls, type, if k = .missing then none else some (max 1 (min 4 n.toNat))⟩ },
        if k = .missing then ⟨.done, none, [k.code, c, type.code, 0#8]⟩
        else ⟨if max 1 (min 4 n.toNat) = n.toNat then .done else .clamped, none, [k.code, c, type.code, u8 (max 1 (min 4 n.toNat))]⟩) := by
  have hbyte : u8 cls.val = c := by rw [← hc, u8_toNat_self]
  simp only [ownSetClass, kindOf_code, classOf_val hc, reportTypeOf_code, clampNat_eq (show 1 ≤ 4 by omega), KindSetting.bytes,
    hbyte]
  by_cases hk : k = .missing
  · simp [hk, Answer.doneOrClamped, u8]
  · by_cases hn : max 1 (min 4 n.toNat) = n.toNat <;> simp [hk, hn, Answer.doneOrClamped]

end

theorem acceptedIn_config {c : Command} (h : c ∈ [.setAxle, .setLimits, .setClass, .setFilter, .setLink]) {m : Mode} :
    c.acceptedIn m = decide (m = .config) := by
  simp only [List.mem_cons, List.not_mem_nil, or_false] at h
  rcases h with rfl | rfl | rfl | rfl | rfl <;> cases m <;> rfl

/-- Settles O21: the three operands are read in their order, and one entry is replaced. -/
theorem setClassReplacesEntry : Obligations.SetClassReplacesEntry := by
  unfold Obligations.SetClassReplacesEntry
  intro s kb c t n hready
  have hmode : Command.acceptedIn .setClass s.modes.mode = decide (s.modes.mode = .config) := acceptedIn_config (by decide)
  refine ⟨fun hm => ?wrongMode, fun hm hbad => ?refused, fun hm k cls type hkb hc ht => ?stored,
    fun k j x => s.kinds.get_put k j x⟩
  case wrongMode => exact exec_instr_wrongMode (c := .setClass) hready rfl (hmode.trans (decide_eq_false hm))
  case refused =>
    exact exec_instr_onlyAnswers (c := .setClass) hready rfl (hmode.trans (decide_eq_true hm)) (ownSetClass_refused hbad)
  case stored =>
    subst hkb ht
    exact exec_instr_answered .setClass [k.code, c, type.code, n] hready rfl (hmode.trans (decide_eq_true hm)) (ownSetClass_code k hc type) rfl

/-! ## SET_FILTER, and the IDs the filters let in (R41, R42) -/

theorem bytes32_read32 (b3 b2 b1 b0 : Byte) : bytes32 (read32 b3 b2 b1 b0) = [b3, b2, b1, b0] := by
  have hword : (read32 b3 b2 b1 b0).toNat = 16777216 * b3.toNat + 65536 * b2.toNat + 256 * b1.toNat + b0.toNat := by
    have hb2 := b2.isLt
    have hb1 := b1.isLt
    have hb0 := b0.isLt
    rw [read32, BitVec.toNat_append, ← Nat.shiftLeft_add_eq_or_of_lt hb0, BitVec.toNat_append,
      ← Nat.shiftLeft_add_eq_or_of_lt hb1, BitVec.toNat_append, ← Nat.shiftLeft_add_eq_or_of_lt hb2]
    simp only [Nat.shiftLeft_eq]
    omega
  have h3 := b3.isLt
  have h2 := b2.isLt
  have h1 := b1.isLt
  have h0 := b0.isLt
  have byte : ∀ (n : Nat) (b : Byte), (read32 b3 b2 b1 b0).toNat / 2 ^ n % 256 = b.toNat →
      (read32 b3 b2 b1 b0 >>> n).setWidth 8 = b := fun n b h => by
    apply BitVec.eq_of_toNat_eq
    rw [BitVec.toNat_setWidth, BitVec.toNat_ushiftRight, Nat.shiftRight_eq_div_pow]
    exact h
  have last : (read32 b3 b2 b1 b0).setWidth 8 = b0 := by
    apply BitVec.eq_of_toNat_eq
    rw [BitVec.toNat_setWidth, hword]
    omega
  rw [bytes32, byte 24 b3 (by rw [hword]; omega), byte 16 b2 (by rw [hword]; omega), byte 8 b1 (by rw [hword]; omega), last]

/-- An ID matches an entry exactly when it has the code's bits where the mask leaves one to compare (R41). -/
theorem AcceptFilter.matchesId_iff (f : AcceptFilter) (id : SensorId) :
    f.matchesId id = true ↔ ∀ i < 32, f.mask.getLsbD i = false → id.getLsbD i = f.code.getLsbD i := by
  have hbit : ∀ i < 32, ((id ^^^ f.code) &&& ~~~f.mask).getLsbD i = false ↔
      (f.mask.getLsbD i = false → id.getLsbD i = f.code.getLsbD i) := fun i hi => by
    rw [BitVec.getLsbD_and, BitVec.getLsbD_xor, BitVec.getLsbD_not]
    cases f.mask.getLsbD i <;> cases id.getLsbD i <;> cases f.code.getLsbD i <;> simp [hi]
  unfold AcceptFilter.matchesId
  rw [beq_iff_eq]
  constructor
  · intro h i hi
    exact (hbit i hi).mp (by rw [h]; exact BitVec.getLsbD_zero)
  · intro h
    apply BitVec.eq_of_getLsbD_eq
    intro i hi
    rw [(hbit i hi).mpr (h i hi), BitVec.getLsbD_zero]

theorem admits_iff (fs : List AcceptFilter) (id : SensorId) : admits fs id = true ↔
    ∃ f ∈ fs, f.enable = true ∧ ∀ i < 32, f.mask.getLsbD i = false → id.getLsbD i = f.code.getLsbD i := by
  unfold admits
  simp only [List.any_eq_true, Bool.and_eq_true, AcceptFilter.matchesId_iff]

section
variable {s : State} {n c3 c2 c1 c0 m3 m2 m1 m0 e : Byte}

theorem ownSetFilter_refused (h : 4 ≤ n.toNat ∨ e ∉ [0#8, 1#8]) :
    ownSetFilter [n, c3, c2, c1, c0, m3, m2, m1, m0, e] s = (s, ⟨.refused, some .badArgument, []⟩) := by
  unfold ownSetFilter
  dsimp only
  split
  · rename_i on hon
    rcases h with h | h
    · exact if_neg (Nat.not_lt.mpr h)
    · rw [yesNoOf_eq_none h] at hon
      cases hon
  · rfl

theorem ownSetFilter_stored (h : n.toNat < 4) (on : Bool) :
    ownSetFilter [n, c3, c2, c1, c0, m3, m2, m1, m0, yesNo on] s =
      ({ s with join := { s.join with
          filters := s.join.filters.set n.toNat ⟨read32 c3 c2 c1 c0, read32 m3 m2 m1 m0, on⟩ } },
        ⟨.done, none, [n, c3, c2, c1, c0, m3, m2, m1, m0, yesNo on]⟩) := by
  have hlt : n.toNat < Config.filters := h
  simp only [ownSetFilter, yesNoOf_yesNo, if_pos hlt, AcceptFilter.bytes, bytes32_read32, u8_toNat_self, Answer.done]
  rfl

end

/-- Settles O22: in CONFIG the owner reads the number and the enable byte and replaces the entry; admission is bit by bit. -/
theorem setFilterAndAdmission : Obligations.SetFilterAndAdmission := by
  unfold Obligations.SetFilterAndAdmission
  refine ⟨fun s n c3 c2 c1 c0 m3 m2 m1 m0 e hready hconfig => ?commands, admits_iff⟩
  have hmode : Command.acceptedIn .setFilter s.modes.mode = true := by rw [hconfig]; rfl
  refine ⟨fun hbad => ?refused, fun hn on he => ?stored⟩
  case refused => exact exec_instr_onlyAnswers (c := .setFilter) hready rfl hmode (ownSetFilter_refused hbad)
  case stored =>
    subst he
    exact exec_instr_answered .setFilter [n, c3, c2, c1, c0, m3, m2, m1, m0, yesNo on] hready rfl hmode
      (ownSetFilter_stored hn on) rfl

/-! ## SET_MODE (R166) -/

section
variable {s : State}

theorem ownSetMode_badArgument {b : Byte} (h : b ∉ [1#8, 2#8, 3#8, 4#8]) :
    ownSetMode [b] s = (s, ⟨.refused, some .badArgument, []⟩) := by
  simp only [ownSetMode, modeOf_eq_none h, Answer.refused]

theorem ownSetMode_busy {m waiting : Mode} (h : s.modes.pending = some waiting) :
    ownSetMode [m.code] s = (s, ⟨.refused, some .busy, [s.modes.mode.code, waiting.code]⟩) := by
  simp [ownSetMode, modeOf_code, h, ModeController.bytes, optCode, Answer.refused]

theorem ownSetMode_same {m : Mode} (hp : s.modes.pending = none) (hm : m = s.modes.mode) :
    ownSetMode [m.code] s = (s, ⟨.done, none, [m.code, 0#8]⟩) := by
  simp [ownSetMode, modeOf_code, hp, hm, ModeController.bytes, optCode, Answer.done]

theorem ownSetMode_notConfigured {m : Mode} (hp : s.modes.pending = none) (hc : s.modes.mode = .config) (hm : m ≠ .config)
    (ha : ∀ a ∈ s.axles, a.present = false) : ownSetMode [m.code] s = (s, ⟨.refused, some .notConfigured, []⟩) := by
  have hnone : s.axles.any Axle.present = false := List.any_eq_false.mpr fun a h => by simp [ha a h]
  simp [ownSetMode, modeOf_code, hp, hc, hm, hnone, Answer.refused]

theorem ownSetMode_leaves {m : Mode} (hp : s.modes.pending = none) (hc : s.modes.mode = .config) (hm : m ≠ .config)
    (ha : s.axles.any Axle.present = true) : ownSetMode [m.code] s = (s.leaveConfig m, ⟨.done, none, [m.code, 0#8]⟩) := by
  simp [ownSetMode, modeOf_code, hp, hc, hm, ha, Answer.done]

theorem ownSetMode_pends {m : Mode} (hp : s.modes.pending = none) (hc : s.modes.mode ≠ .config) (hm : m ≠ s.modes.mode) :
    ownSetMode [m.code] s =
      ({ s with modes := { s.modes with pending := some m } }, ⟨.done, none, [s.modes.mode.code, m.code]⟩) := by
  simp [ownSetMode, modeOf_code, hp, hc, hm, Answer.done]

end

/-- Settles O28: each check of the owner in its turn. -/
theorem setModeChecksInOrder : Obligations.SetModeChecksInOrder := by
  unfold Obligations.SetModeChecksInOrder
  intro s b hready
  refine ⟨fun hb => ?badArgument, fun m hb => ?mode⟩
  case badArgument => exact exec_instr_onlyAnswers (c := .setMode) hready rfl rfl (ownSetMode_badArgument hb)
  case mode =>
    subst hb
    refine ⟨fun waiting hp => ?busy, fun hp hm => ?same, fun hp hc hm ha => ?notConfigured, fun hp hc hm => ?pends⟩
    case busy => exact exec_instr_onlyAnswers (c := .setMode) hready rfl rfl (ownSetMode_busy (s := s.taking) hp)
    case same => exact exec_instr_onlyAnswers (c := .setMode) hready rfl rfl (ownSetMode_same (s := s.taking) hp hm)
    case notConfigured =>
      exact exec_instr_onlyAnswers (c := .setMode) hready rfl rfl (ownSetMode_notConfigured (s := s.taking) hp hc hm ha)
    case pends =>
      exact exec_instr_answered .setMode [m.code] hready rfl rfl (ownSetMode_pends (s := s.taking) hp hc hm) rfl

end Sys2Proof.Machine

/-! PROOF. The commands on positions: LEARN, BIND, CANCEL, UNBIND (R56 to R59). -/

namespace Sys2Proof.Machine

/-! ## LEARN (R56) -/

theorem State.learningPosition_isSome_iff {s : State} (hlen : s.positions.length = 32) :
    s.learningPosition.isSome = true ↔ ∃ r ∈ s.positions, r.state = .learning := by
  unfold State.learningPosition
  rw [List.find?_isSome]
  constructor
  · rintro ⟨p, hp, hl⟩
    exact ⟨s.pos p, State.pos_mem (by rw [hlen]; exact mem_allPositions.mp hp), by simpa using hl⟩
  · rintro ⟨r, hr, hl⟩
    obtain ⟨p, hp, rfl⟩ := exists_pos_of_mem hr
    exact ⟨p, mem_allPositions.mpr (hlen ▸ hp), by simpa using hl⟩

theorem State.pendingFull_iff (s : State) : s.pendingFull = true ↔ 4 ≤ s.countPositions PosState.pendingBind :=
  decide_eq_true_iff

section
variable {s : State} {b : Byte}

theorem ownLearn_badArgument (h : 32 ≤ b.toNat) : ownLearn [b] s = (s, ⟨.refused, some .badArgument, []⟩) := by
  simp only [ownLearn, indexOf_of_le h, Answer.refused]

theorem ownLearn_notVacant (h : b.toNat < 32) (hv : (s.pos b.toNat).state ≠ .vacant) :
    ownLearn [b] s = (s, ⟨.refused, some .notVacant, []⟩) := by
  simp only [ownLearn, indexOf_of_lt h, if_pos hv, Answer.refused]

theorem ownLearn_busy (h : b.toNat < 32) (hv : (s.pos b.toNat).state = .vacant)
    (hbusy : s.learningPosition.isSome = true ∨ s.pendingFull = true) :
    ownLearn [b] s = (s, ⟨.refused, some .busy, []⟩) := by
  simp only [ownLearn, indexOf_of_lt h, if_neg (not_not.mpr hv), Answer.refused]
  split
  · rfl
  · exact if_pos (hbusy.resolve_left (by assumption))

theorem ownLearn_learns (h : b.toNat < 32) (hv : (s.pos b.toNat).state = .vacant) (hl : s.learningPosition.isSome = false)
    (hf : s.pendingFull = false) :
    ownLearn [b] s = (s.setPos b.toNat { s.pos b.toNat with state := .learning, stateEntry := s.seq.frameNumber, learn := some 150 },
      ⟨.done, none, [b, 150#8]⟩) := by
  simp only [ownLearn, indexOf_of_lt h, if_neg (not_not.mpr hv), hl, hf, Bool.false_eq_true, if_false]
  rfl

end

/-- Settles O24: each check of the owner in its turn. -/
theorem learnWaitsAtAVacantPosition : Obligations.LearnWaitsAtAVacantPosition := by
  unfold Obligations.LearnWaitsAtAVacantPosition
  intro s b hready hmode hlen refuse
  have hin : Command.acceptedIn .learn s.modes.mode = true := by rcases hmode with h | h <;> rw [h] <;> rfl
  have hlearning := State.learningPosition_isSome_iff hlen
  have refused : ∀ {r : Reason}, ownLearn [b] s.taking = (s.taking, ⟨.refused, some r, []⟩) → refuse r :=
    fun h => exec_instr_onlyAnswers (c := .learn) hready rfl hin h
  refine ⟨fun hb => ?badArgument, fun hb hv => ?notVacant, fun hb hv hl => ?learning, fun hb hv hf => ?full,
    fun hb hv hl hf => ?learns⟩
  case badArgument => exact refused (ownLearn_badArgument hb)
  case notVacant => exact refused (ownLearn_notVacant (s := s.taking) hb hv)
  case learning => exact refused (ownLearn_busy (s := s.taking) hb hv (.inl (hlearning.mpr hl)))
  case full => exact refused (ownLearn_busy (s := s.taking) hb hv (.inr (s.pendingFull_iff.mpr hf)))
  case learns =>
    have hnone : s.learningPosition.isSome = false := Bool.eq_false_iff.mpr fun h =>
      have ⟨r, hr, hlr⟩ := hlearning.mp h
      hl r hr hlr
    have hroom : s.pendingFull = false := Bool.eq_false_iff.mpr fun h =>
      absurd (s.pendingFull_iff.mp h) (Nat.not_le.mpr hf)
    exact exec_instr_answered .learn [b] hready rfl hin (ownLearn_learns (s := s.taking) hb hv hnone hroom) rfl

/-! ## BIND (R57) -/

theorem removeCandidate_split {id : SensorId} {older younger : List Candidate} {c : Candidate} (hid : c.id = id)
    (hothers : ∀ x ∈ older ++ younger, x.id ≠ id) : removeCandidate id (older ++ c :: younger) = older ++ younger := by
  have hkept : ∀ l : List Candidate, (∀ x ∈ l, x.id ≠ id) → l.filter (fun x => !(x.id == id)) = l := fun l hl =>
    List.filter_eq_self.mpr fun x hx => by simpa using hl x hx
  rw [List.forall_mem_append] at hothers
  unfold removeCandidate
  rw [List.filter_append, List.filter_cons_of_neg (by simp [hid]), hkept older hothers.1, hkept younger hothers.2]

theorem findCandidate_split {id : SensorId} {older younger : List Candidate} {c : Candidate} (hid : c.id = id)
    (hothers : ∀ x ∈ older ++ younger, x.id ≠ id) : findCandidate id (older ++ c :: younger) = some c := by
  have hnone : older.find? (fun x => x.id == id) = none := List.find?_eq_none.mpr fun x hx => by
    simpa using hothers x (List.mem_append_left _ hx)
  unfold findCandidate
  rw [List.find?_append, hnone, Option.none_or, List.find?_cons_of_pos (by simpa using hid)]

section
variable {s : State} {b i3 i2 i1 i0 : Byte}

theorem ownBind_badArgument (h : 32 ≤ b.toNat) : ownBind [b, i3, i2, i1, i0] s = (s, ⟨.refused, some .badArgument, []⟩) := by
  simp only [ownBind, indexOf_of_le h, Answer.refused]

theorem ownBind_notVacant (h : b.toNat < 32) (hv : (s.pos b.toNat).state ≠ .vacant) :
    ownBind [b, i3, i2, i1, i0] s = (s, ⟨.refused, some .notVacant, []⟩) := by
  simp only [ownBind, indexOf_of_lt h, if_pos hv, Answer.refused]

theorem ownBind_noCandidate (h : b.toNat < 32) (hv : (s.pos b.toNat).state = .vacant)
    (hc : ∀ c ∈ s.join.candidates, c.id ≠ read32 i3 i2 i1 i0) :
    ownBind [b, i3, i2, i1, i0] s = (s, ⟨.refused, some .noCandidate, []⟩) := by
  have hnone : findCandidate (read32 i3 i2 i1 i0) s.join.candidates = none :=
    List.find?_eq_none.mpr fun c h => by simpa using hc c h
  simp only [ownBind, indexOf_of_lt h, if_neg (not_not.mpr hv), hnone, Answer.refused]

theorem ownBind_busy (h : b.toNat < 32) (hv : (s.pos b.toNat).state = .vacant)
    (hc : ∃ c ∈ s.join.candidates, c.id = read32 i3 i2 i1 i0) (hf : s.pendingFull = true) :
    ownBind [b, i3, i2, i1, i0] s = (s, ⟨.refused, some .busy, []⟩) := by
  obtain ⟨c, hmem, hid⟩ := hc
  obtain ⟨d, hd⟩ := Option.isSome_iff_exists.mp
    (List.find?_isSome (p := fun x : Candidate => x.id == read32 i3 i2 i1 i0).mpr ⟨c, hmem, by simpa using hid⟩)
  have hfound : findCandidate (read32 i3 i2 i1 i0) s.join.candidates = some d := hd
  simp only [ownBind, indexOf_of_lt h, if_neg (not_not.mpr hv), hfound, if_pos hf, Answer.refused]

theorem ownBind_offers (h : b.toNat < 32) (hv : (s.pos b.toNat).state = .vacant) {c : Candidate}
    (hid : c.id = read32 i3 i2 i1 i0) (hc : findCandidate (read32 i3 i2 i1 i0) s.join.candidates = some c)
    (hf : s.pendingFull = false) :
    ownBind [b, i3, i2, i1, i0] s = (s.offerTo b.toNat c, ⟨.done, none, [b, i3, i2, i1, i0, 6#8]⟩) := by
  simp only [ownBind, indexOf_of_lt h, if_neg (not_not.mpr hv), hc, hf, Bool.false_eq_true, if_false, hid, bytes32_read32]
  rfl

end

/-- Settles O25: each check of the owner in its turn; the first candidate with the ID is the only one. -/
theorem bindOffersACandidate : Obligations.BindOffersACandidate := by
  unfold Obligations.BindOffersACandidate
  intro s b i3 i2 i1 i0 hready hmode _ id refuse
  have hin : Command.acceptedIn .bind s.modes.mode = true := by rcases hmode with h | h <;> rw [h] <;> rfl
  have refused : ∀ {r : Reason}, ownBind [b, i3, i2, i1, i0] s.taking = (s.taking, ⟨.refused, some r, []⟩) → refuse r :=
    fun h => exec_instr_onlyAnswers (c := .bind) hready rfl hin h
  refine ⟨fun hb => ?badArgument, fun hb hv => ?notVacant, fun hb hv hc => ?noCandidate, fun hb hv hc hf => ?full,
    fun hb hv hf older younger c hcs hid hothers => ?offers⟩
  case badArgument => exact refused (ownBind_badArgument hb)
  case notVacant => exact refused (ownBind_notVacant (s := s.taking) hb hv)
  case noCandidate => exact refused (ownBind_noCandidate (s := s.taking) hb hv hc)
  case full => exact refused (ownBind_busy (s := s.taking) hb hv hc (s.pendingFull_iff.mpr hf))
  case offers =>
    have hroom : s.pendingFull = false := Bool.eq_false_iff.mpr fun h =>
      absurd (s.pendingFull_iff.mp h) (Nat.not_le.mpr hf)
    have hfound : findCandidate id s.join.candidates = some c := by rw [hcs]; exact findCandidate_split hid hothers
    have hleft : removeCandidate c.id s.join.candidates = older ++ younger := by
      rw [hid, hcs]; exact removeCandidate_split hid hothers
    have hexec := exec_instr_answered .bind [b, i3, i2, i1, i0] hready rfl hin
      (ownBind_offers (s := s.taking) hb hv hid hfound hroom) rfl
    refine hexec.trans ?_
    rw [← hleft, ← hid]
    rfl

end Sys2Proof.Machine

/-! PROOF. Positions that are vacated: their engine mark, their notices and their candidate; CANCEL and UNBIND (R12, R48, R58, R59,
R76). -/

namespace Sys2Proof.Machine

/-! ## A command whose owner moves the store -/

/-- A command that is taken is what its owner makes of it, and its reply (R155, R156). -/
theorem exec_instr_effect {s t : State} (c : Command) (p : List Byte) {a : Answer} (h : s.Ready)
    (hl : p.length = c.payloadLength) (hm : c.acceptedIn s.modes.mode = true)
    (ho : ownerOf s.port.hostSilent c p s.taking = (t, a)) :
    exec (c.instr p) s = .next { t with store := t.store.replied c.code a } := by
  rw [exec_instr, State.commandFrame_ready h hl hm, ho, State.reply_eq]

theorem State.withStore_congr {s t : State} (h : s = t) (st : NoticeStore) : { s with store := st } = { t with store := st } := by
  rw [h]

/-! ## The void mark for several positions (R76) -/

theorem Engine.voidedFor_none (e : Engine) : e.voidedFor (fun _ => false) = e := by
  cases e <;> simp [Engine.voidedFor]

theorem Engine.voidedFor_or (e : Engine) (f g : Nat → Bool) :
    (e.voidedFor f).voidedFor g = e.voidedFor (fun p => f p || g p) := by
  cases e with
  | idle => rfl
  | busy w => simp [Engine.voidedFor, Bool.or_assoc, Bool.and_or_distrib_left]

/-- One position's void mark (R76). -/
theorem Engine.voidFor_eq (e : Engine) {p : Nat} (hp : p < 32) : e.voidFor p = e.voidedFor (fun q => q == p) := by
  cases e with
  | idle => rfl
  | busy w =>
    have hslot : (decide (1 ≤ w.entry.slot ∧ w.entry.slot ≤ 32) && (w.entry.slot - 1 == p)) = decide (w.entry.slot = p + 1) := by
      rw [Bool.eq_iff_iff]
      simp only [Bool.and_eq_true, decide_eq_true_eq, beq_iff_eq]
      omega
    simp only [Engine.voidFor, Engine.voidedFor, Bool.and_assoc, hslot]
    by_cases hr : w.entry.telegram.kind = .report ∧ w.entry.slot = p + 1
    · simp [hr.1, hr.2]
    · rw [if_neg hr]
      have : ((w.entry.telegram.kind == .report) && decide (w.entry.slot = p + 1)) = false := by
        simpa using not_and.mp hr
      rw [this, Bool.or_false]

/-! ## The notices that leave with a position (R12, R143) -/

theorem NoticeStore.withdraw_without (st : NoticeStore) {p : Nat} (hp : p < 32) :
    (st.withdraw (Notice.alarmOrReadingFor p)).1 = st.withEntries (st.entriesWithout (fun q => q == p)) := by
  have hany : ∀ n : Notice, allPositions.any (fun q => q == p && n.alarmOrReadingFor q) = n.alarmOrReadingFor p := fun n => by
    rw [Bool.eq_iff_iff, List.any_eq_true]
    constructor
    · rintro ⟨q, _, hq⟩
      obtain ⟨hqp, hn⟩ := Bool.and_eq_true_iff.mp hq
      exact beq_iff_eq.mp hqp ▸ hn
    · exact fun h => ⟨p, mem_allPositions.mpr hp, by simp [h]⟩
  simp only [NoticeStore.withdraw, NoticeStore.entriesWithout, hany]

theorem NoticeStore.entriesWithout_none (st : NoticeStore) : st.entriesWithout (fun _ => false) = st.entries := by
  simp [NoticeStore.entriesWithout]

theorem NoticeStore.entriesWithout_or (st : NoticeStore) (f g : Nat → Bool) :
    (st.withEntries (st.entriesWithout f)).entriesWithout g = st.entriesWithout (fun p => f p || g p) := by
  have hany : ∀ n : Notice, allPositions.any (fun p => (f p || g p) && n.alarmOrReadingFor p) =
      (allPositions.any (fun p => f p && n.alarmOrReadingFor p) || allPositions.any (fun p => g p && n.alarmOrReadingFor p)) :=
    fun n => by
      induction allPositions with
      | nil => rfl
      | cons p ps ih =>
        rw [List.any_cons, List.any_cons, List.any_cons, ih]
        cases f p <;> cases g p <;> cases n.alarmOrReadingFor p <;> simp
  simp only [NoticeStore.entriesWithout, NoticeStore.withEntries_entries, List.filter_filter, hany]
  refine List.filter_congr fun e _ => ?_
  cases e.waits <;> simp [Bool.and_comm]

/-- What a position that enters VACANT or ABSENT moves (R12, R76). -/
theorem State.enterEmpty_eq (s : State) {p : Nat} (hp : p < 32) (x : PosState) :
    s.enterEmpty p x = { s with
      positions := s.positions.set p (Position.emptied x s.seq.frameNumber)
      store := s.store.withEntries (s.store.entriesWithout (fun q => q == p))
      engine := s.engine.voidedFor (fun q => q == p)
      lamp := (s.setPos p (Position.emptied x s.seq.frameNumber)).lampRule } := by
  unfold State.enterEmpty
  dsimp only
  rw [Engine.voidFor_eq _ hp, State.withdraw, State.setPos_store, NoticeStore.withdraw_without _ hp]
  rfl

/-! ## A candidate that comes back (R48) -/

theorem State.appendCandidate_room {s : State} (h : s.join.candidates.length < 8) (c : Candidate) :
    s.appendCandidate c = { s with join := { s.join with candidates := s.join.candidates ++ [c] } } := if_pos h

theorem State.appendCandidate_full {s : State} (h : 8 ≤ s.join.candidates.length) (c : Candidate) :
    s.appendCandidate c = s.raise .candidateOverrun := if_neg (Nat.not_lt.mpr h)

theorem State.returnCandidate_conds_mask (s : State) (o : Option Offer) : (s.returnCandidate o).conds.mask = s.conds.mask := by
  cases o with
  | none => rfl
  | some f =>
    rcases Nat.lt_or_ge s.join.candidates.length 8 with h | h
    · rw [State.returnCandidate, State.appendCandidate_room h]
    · rw [State.returnCandidate, State.appendCandidate_full h, State.raise_mask]

/-- A returned candidate leaves the store, or it meets a full list and CANDIDATE_OVERRUN is raised (R48). -/
theorem State.returnCandidate_store_cases (s : State) (o : Option Offer) :
    (s.returnCandidate o).store = s.store ∨ s.returnCandidate o = s.raise .candidateOverrun := by
  cases o with
  | none => exact .inl rfl
  | some f =>
    rcases Nat.lt_or_ge s.join.candidates.length 8 with h | h
    · exact .inl (by rw [State.returnCandidate, State.appendCandidate_room h])
    · exact .inr (State.appendCandidate_full h _)

/-- A raise that moves no condition does nothing (R128). -/
theorem State.raise_of_conds_eq {s : State} {c : Condition} (h : (s.raise c).conds = s.conds) : s.raise c = s := by
  obtain ⟨-, lost, hset⟩ := s.raise_conds c
  have hc := hset c
  rw [h, beq_self_eq_true, Bool.or_true, Bool.true_or] at hc
  exact State.raise_set hc

/-- While a reply is formed the store takes no message, so that a raise only adds its own notice (R128, R141). -/
theorem State.mem_raise_entries {s : State} (hr : s.store.reply ≠ .empty) {c : Condition} {e : Entry}
    (he : e ∈ (s.raise c).store.entries) : e ∈ s.store.entries ∨ e = ⟨.condition c s.seq.frameNumber, 4, .waiting⟩ := by
  rcases s.raise_store_cases c with h | h <;> rw [h] at he
  · exact .inl he
  · exact (NoticeStore.take_busy (fun hidle => hr hidle.2)).2.2 e he

/-! ## CANCEL and UNBIND (R58, R59) -/

/-- A position with something to release is vacated and its offered candidate returned (R58, R59). -/
def State.released (s : State) (p : Nat) : State := (s.enterEmpty p .vacant).returnCandidate (s.pos p).offer

section
variable {s : State} {b : Byte}

theorem ownCancel_badArgument (h : 32 ≤ b.toNat) : ownCancel [b] s = (s, ⟨.refused, some .badArgument, []⟩) := by
  simp only [ownCancel, indexOf_of_le h, Answer.refused]

theorem ownUnbind_badArgument (h : 32 ≤ b.toNat) : ownUnbind [b] s = (s, ⟨.refused, some .badArgument, []⟩) := by
  simp only [ownUnbind, indexOf_of_le h, Answer.refused]

theorem PosState.pendingBind_iff (x : PosState) : x.pendingBind = true ↔ x ∈ [PosState.learning, .offered] := by
  cases x <;> decide

theorem ownCancel_notPending (h : b.toNat < 32) (hp : (s.pos b.toNat).state ∉ [PosState.learning, .offered]) :
    ownCancel [b] s = (s, ⟨.refused, some .notPending, []⟩) := by
  have hno : (s.pos b.toNat).state.pendingBind = false := Bool.eq_false_iff.mpr fun h => hp ((PosState.pendingBind_iff _).mp h)
  simp only [ownCancel, indexOf_of_lt h, hno, Bool.false_eq_true, if_false, Answer.refused]

theorem ownCancel_releases (h : b.toNat < 32) (hp : (s.pos b.toNat).state ∈ [PosState.learning, .offered]) :
    ownCancel [b] s = (s.released b.toNat, ⟨.done, none, [b, (s.pos b.toNat).state.code]⟩) := by
  simp only [ownCancel, indexOf_of_lt h, (PosState.pendingBind_iff _).mpr hp, if_true, Answer.done, State.released]

theorem ownUnbind_notBound (h : b.toNat < 32) (hp : (s.pos b.toNat).state ∈ [PosState.absent, .vacant]) :
    ownUnbind [b] s = (s, ⟨.refused, some .notBound, []⟩) := by
  simp only [ownUnbind, indexOf_of_lt h, if_pos (by simpa using hp), Answer.refused]

theorem ownUnbind_releases (h : b.toNat < 32) (hp : (s.pos b.toNat).state ∉ [PosState.absent, .vacant]) :
    ownUnbind [b] s = (s.released b.toNat,
      ⟨.done, none, [b, (s.pos b.toNat).state.code] ++ optField 4 bytes32 (s.pos b.toNat).sensorId⟩) := by
  simp only [ownUnbind, indexOf_of_lt h, if_neg (show ¬(_ ∨ _) by simpa using hp), Answer.done, State.released]

end

section
variable {s : State} {p : Nat}

/-- What a release moves, the table, the engine, LAMP and what the returned candidate moves. -/
theorem State.released_eq (hp : p < 32) : s.released p = { s with
    positions := s.positions.set p (Position.emptied .vacant s.seq.frameNumber)
    join := { s.join with candidates := (s.released p).join.candidates }
    engine := s.engine.voidedFor (fun q => q == p), lamp := (s.setPos p (Position.emptied .vacant s.seq.frameNumber)).lampRule
    conds := (s.released p).conds, store := (s.released p).store } := by
  conv_lhs => rw [State.released, State.returnCandidate_eq]
  rw [State.released, State.enterEmpty_eq s hp]

theorem State.released_pos (hp : p < s.positions.length) :
    (s.released p).pos p = Position.emptied .vacant s.seq.frameNumber := by
  rw [State.released, State.returnCandidate_pos, State.enterEmpty_pos, if_pos ⟨rfl, hp⟩]

/-- No notice that told of the position's alarms or readings waits on (R12, R143). -/
theorem State.released_withdrawn (hr : s.store.reply ≠ .empty) {e : Entry}
    (he : e ∈ (s.released p).store.entries) (hw : e.waits = true) : e.notice.alarmOrReadingFor p = false := by
  have hgone : ∀ e ∈ (s.enterEmpty p .vacant).store.entries, e.waits = true → e.notice.alarmOrReadingFor p = false := by
    intro e he hw
    have hkept := (List.mem_filter.mp he).2
    simpa [hw] using hkept
  rcases (s.enterEmpty p .vacant).returnCandidate_store_cases (s.pos p).offer with h | h <;> rw [State.released, h] at he
  · exact hgone e he hw
  · rcases State.mem_raise_entries (s := s.enterEmpty p .vacant) hr he with he | rfl
    · exact hgone e he hw
    · rfl

theorem State.released_keeps {e : Entry} (he : e ∈ s.store.entries)
    (hn : e.notice.alarmOrReadingFor p = false) (hconds : (s.released p).conds = s.conds) : e ∈ (s.released p).store.entries := by
  have hkept : e ∈ (s.enterEmpty p .vacant).store.entries := List.mem_filter.mpr ⟨he, by simp [hn]⟩
  rcases (s.enterEmpty p .vacant).returnCandidate_store_cases (s.pos p).offer with h | h
  · rw [State.released, h]
    exact hkept
  · rw [State.released, h] at hconds ⊢
    rw [State.raise_of_conds_eq (s := s.enterEmpty p .vacant) hconds]
    exact hkept

end

section
variable {s : State} {p : Nat}

theorem State.released_none (h : (s.pos p).offer = none) : s.released p = s.enterEmpty p .vacant := by
  rw [State.released, h]
  rfl

theorem State.released_room {f : Offer} (h : (s.pos p).offer = some f) (hroom : s.join.candidates.length < 8) :
    s.released p = { s.enterEmpty p .vacant with
      join := { s.join with candidates := s.join.candidates ++ [f.candidate] } } := by
  rw [State.released, h]
  exact State.appendCandidate_room (s := s.enterEmpty p .vacant) hroom _

theorem State.released_full {f : Offer} (h : (s.pos p).offer = some f) (hfull : 8 ≤ s.join.candidates.length) :
    s.released p = (s.enterEmpty p .vacant).raise .candidateOverrun := by
  rw [State.released, h]
  exact State.appendCandidate_full (s := s.enterEmpty p .vacant) hfull _

theorem State.released_mask : (s.released p).conds.mask = s.conds.mask := State.returnCandidate_conds_mask _ _

theorem State.returnCandidate_readings (s : State) (o : Option Offer) :
    (s.returnCandidate o).store.readings = s.store.readings := by
  rcases s.returnCandidate_store_cases o with h | h <;> rw [h]
  exact State.raise_readings _ _

/-- LAMP is judged on the table as the release leaves it (R123). -/
theorem State.released_lamp (hp : p < 32) : (s.released p).lamp = (s.released p).lampRule := by
  have hrule := State.lampRule_congr (s := s.setPos p (Position.emptied .vacant s.seq.frameNumber)) (t := s.released p)
    (by rw [State.released_eq hp]; rfl) (by rw [State.released_eq hp]; rfl) (by rw [State.released_eq hp]; rfl)
    (by rw [State.released_eq hp]; rfl)
  rw [hrule, State.released_eq hp]

end

theorem Alarms.emptied_get (x : PosState) (f : FrameNo) (k : Kind) : (Position.emptied x f).alarms.get k = ⟨false, false, 0⟩ := by
  cases k <;> rfl

/-- Settles O26: the checks of the owners, then what a release does to the part. -/
theorem cancelAndUnbindVacate : Obligations.CancelAndUnbindVacate := by
  unfold Obligations.CancelAndUnbindVacate
  intro s b hready hlen old
  have hcancel : s.modes.mode = .run ∨ s.modes.mode = .test → Command.acceptedIn .cancel s.modes.mode = true := by
    rintro (h | h) <;> rw [h] <;> rfl
  refine ⟨fun hb => ⟨?unbindIndex, fun hmode => ?cancelIndex⟩, fun hmode hb hold => ?notPending, fun hb hold => ?notBound,
    fun hb c kind data hc => ?released⟩
  case unbindIndex => exact exec_instr_onlyAnswers (c := .unbind) hready rfl rfl (ownUnbind_badArgument hb)
  case cancelIndex => exact exec_instr_onlyAnswers (c := .cancel) hready rfl (hcancel hmode) (ownCancel_badArgument hb)
  case notPending =>
    exact exec_instr_onlyAnswers (c := .cancel) hready rfl (hcancel hmode) (ownCancel_notPending (s := s.taking) hb hold)
  case notBound =>
    exact exec_instr_onlyAnswers (c := .unbind) hready rfl rfl (ownUnbind_notBound (s := s.taking) hb hold)
  case released =>
    have hexec : exec c s = .next { s.taking.released b.toNat with
        store := (s.taking.released b.toNat).store.replied kind ⟨.done, none, data⟩ } := by
      rcases hc with ⟨rfl, rfl, rfl, hmode, hold⟩ | ⟨rfl, rfl, rfl, hold⟩
      · exact exec_instr_effect .cancel [b] hready rfl (hcancel hmode) (ownCancel_releases (s := s.taking) hb hold)
      · exact exec_instr_effect .unbind [b] hready rfl rfl (ownUnbind_releases (s := s.taking) hb hold)
    have hpos : (s.taking.released b.toNat).pos b.toNat = Position.emptied .vacant s.seq.frameNumber :=
      State.released_pos (by exact hlen ▸ hb)
    have hrule : State.lampRule { s.taking.released b.toNat with
        store := (s.taking.released b.toNat).store.replied kind ⟨.done, none, data⟩ } =
        (s.taking.setPos b.toNat (Position.emptied .vacant s.seq.frameNumber)).lampRule :=
      (State.released_lamp (s := s.taking) hb).symm.trans (congrArg State.lamp (State.released_eq (s := s.taking) hb))
    have hforming : s.taking.store.reply ≠ .empty := nofun
    refine ⟨_, hexec, ?_⟩
    refine ⟨?frame, congrArg Position.state hpos, congrArg Position.sensorId hpos, congrArg Position.offer hpos,
      congrArg Position.learn hpos, congrArg Position.wheel hpos, fun k => ?alarms, rfl, State.returnCandidate_readings _ _,
      State.released_mask, fun e he hw => State.released_withdrawn hforming he hw,
      fun e he hn hconds => State.released_keeps he hn hconds, fun hnone => ?noOffer, fun f hf => ⟨fun hroom => ?room, fun hfull => ?full⟩⟩
    case frame =>
      rw [hrule]
      exact State.withStore_congr (State.released_eq (s := s.taking) hb) _
    case alarms => exact (congrArg (fun r : Position => r.alarms.get k) hpos).trans (Alarms.emptied_get _ _ k)
    case noOffer =>
      have heq := State.released_none (s := s.taking) hnone
      have hcandidates := congrArg (fun u : State => u.join.candidates) heq
      have hconds := congrArg State.conds heq
      exact ⟨hcandidates, hconds⟩
    case room =>
      have heq := State.released_room (s := s.taking) hf hroom
      have hcandidates := congrArg (fun u : State => u.join.candidates) heq
      have hconds := congrArg State.conds heq
      exact ⟨hcandidates, hconds⟩
    case full =>
      have heq := State.released_full (s := s.taking) hf hfull
      obtain ⟨-, lost, hset⟩ := (s.taking.enterEmpty b.toNat .vacant).raise_conds .candidateOverrun
      refine ⟨(congrArg (fun u : State => u.join.candidates) heq).trans ?_, ?_⟩
      · rw [State.raise_join]
        rfl
      · refine (congrArg (fun u : State => condIn .candidateOverrun u.conds.set) heq).trans ?_
        rw [hset, beq_self_eq_true, Bool.or_true, Bool.true_or]

end Sys2Proof.Machine

/-! PROOF. SET_AXLE, and the positions it brings into line (R3, R4, R12, R76). -/

namespace Sys2Proof.Machine

/-! ## Several positions vacated -/

/-- Some positions have been vacated: the engine and the notices show no other change (R12, R76). -/
structure State.Vacated (gone : Nat → Bool) (s t : State) : Prop where
  engine : t.engine = s.engine.voidedFor gone
  entries : t.store.entries = s.store.entriesWithout gone
  reply : t.store.reply = s.store.reply
  readings : t.store.readings = s.store.readings

theorem State.Vacated.refl (s : State) : s.Vacated (fun _ => false) s :=
  ⟨(Engine.voidedFor_none _).symm, (NoticeStore.entriesWithout_none _).symm, rfl, rfl⟩

theorem State.Vacated.trans {s t u : State} {f g : Nat → Bool} (h : State.Vacated f s t) (h' : State.Vacated g t u) :
    State.Vacated (fun p => f p || g p) s u := by
  refine ⟨?_, ?_, h'.reply.trans h.reply, h'.readings.trans h.readings⟩
  · rw [h'.engine, h.engine, Engine.voidedFor_or]
  · have hsame : t.store.entriesWithout g = (s.store.withEntries (s.store.entriesWithout f)).entriesWithout g := by
      unfold NoticeStore.entriesWithout
      rw [h.entries]
      rfl
    rw [h'.entries, hsame, NoticeStore.entriesWithout_or]

theorem State.enterEmpty_vacated (s : State) {p : Nat} (hp : p < 32) (x : PosState) :
    State.Vacated (fun q => q == p) s (s.enterEmpty p x) := by
  rw [State.enterEmpty_eq s hp]
  exact ⟨rfl, rfl, rfl, rfl⟩

/-! ## A position brought into line with its axle entry (R4) -/

/-- A position is ABSENT though it is fitted, or is another state though it is not (R4). -/
def State.misfits (s : State) (p : Nat) : Bool := ((s.pos p).state == .absent) == s.fitted p

theorem State.fit_misfit {s : State} {p : Nat} (h : s.misfits p = true) :
    s.fit p = s.enterEmpty p (if s.fitted p then .vacant else .absent) := by
  unfold State.misfits at h
  unfold State.fit
  by_cases ha : (s.pos p).state = .absent <;> cases hf : s.fitted p <;> simp [ha, hf] at h ⊢

theorem State.fit_in_line {s : State} {p : Nat} (h : s.misfits p = false) : s.fit p = s := by
  unfold State.misfits at h
  unfold State.fit
  by_cases ha : (s.pos p).state = .absent <;> cases hf : s.fitted p <;> simp [ha, hf] at h ⊢

theorem State.fit_vacated (s : State) {p : Nat} (hp : p < 32) :
    State.Vacated (fun q => q == p && s.misfits p) s (s.fit p) := by
  cases h : s.misfits p with
  | true =>
    rw [State.fit_misfit h]
    simpa using s.enterEmpty_vacated hp _
  | false =>
    rw [State.fit_in_line h]
    simpa using State.Vacated.refl s

theorem State.fit_misfits_of_ne (s : State) {p q : Nat} (h : q ≠ p) : (s.fit p).misfits q = s.misfits q := by
  unfold State.misfits
  rw [State.fitted_congr (s.fit_axles p), State.fit_pos, if_neg (fun hq => h hq.1)]

theorem State.foldl_fit_vacated {ps : List Nat} (hps : ps.Nodup) (hlt : ∀ p ∈ ps, p < 32) (s : State) :
    State.Vacated (fun q => decide (q ∈ ps) && s.misfits q) s (ps.foldl State.fit s) := by
  induction ps generalizing s with
  | nil => simpa using State.Vacated.refl s
  | cons p ps ih =>
    obtain ⟨hp, hps⟩ := List.nodup_cons.mp hps
    have hchain := (s.fit_vacated (hlt p List.mem_cons_self)).trans
      (ih hps (fun q hq => hlt q (List.mem_cons_of_mem _ hq)) (s.fit p))
    have hsame : (fun q => decide (q ∈ p :: ps) && s.misfits q) =
        fun q => (q == p && s.misfits p) || (decide (q ∈ ps) && (s.fit p).misfits q) := by
      funext q
      by_cases hq : q = p
      · subst hq
        simp [hp]
      · simp [hq, State.fit_misfits_of_ne s hq]
    rw [List.foldl_cons, hsame]
    exact hchain

theorem Position.fittedTo_eq (f : FrameNo) (fits : Bool) (r : Position) : r.fittedTo f fits =
    if (r.state == .absent) == fits then Position.emptied (if fits then .vacant else .absent) f else r := by
  unfold Position.fittedTo
  by_cases h : r.state = .absent <;> cases fits <;> simp [h]

/-- A stored axle entry vacates those of its positions that it does not fit (R3, R4). -/
theorem State.storeAxle_vacated {s : State} {a : Nat} (first : 1 ≤ a) (last : a ≤ 8) (hlen : a ≤ s.axles.length) (entry : Axle) :
    State.Vacated (fun p => p / 4 + 1 == a && ((s.pos p).state == .absent) == fittedBy entry p) s (s.storeAxle a entry) := by
  have hfold := State.foldl_fit_vacated (axlePositions_nodup a) (fun p hp => by have := mem_axlePositions.mp hp; omega)
    { s with axles := s.axles.set (a - 1) entry }
  have hgone : (fun p => decide (p ∈ axlePositions a) && State.misfits { s with axles := s.axles.set (a - 1) entry } p) =
      fun p => p / 4 + 1 == a && ((s.pos p).state == .absent) == fittedBy entry p := by
    funext p
    have hin : decide (p ∈ axlePositions a) = (p / 4 + 1 == a) := by
      rw [Bool.eq_iff_iff, decide_eq_true_iff, beq_iff_eq, mem_axlePositions]
      omega
    rw [hin]
    cases hp : p / 4 + 1 == a with
    | false => rfl
    | true =>
      have hp4 : p / 4 = a - 1 := by
        have := beq_iff_eq.mp hp
        omega
      have hfitted : State.fitted { s with axles := s.axles.set (a - 1) entry } p = fittedBy entry p := by
        have hlt : a - 1 < s.axles.length := by omega
        simp [State.fitted, State.axleOf, hp4, List.getD_eq_getElem?_getD, hlt]
      unfold State.misfits
      rw [hfitted]
      rfl
  rw [hgone] at hfold
  unfold State.storeAxle
  generalize (axlePositions a).foldl State.fit _ = t at hfold ⊢
  exact ⟨hfold.engine, hfold.entries, hfold.reply, hfold.readings⟩

theorem State.storeAxle_lamp {s : State} (hconfig : s.modes.mode = .config) (hlamp : s.lamp = true) (a : Nat) (entry : Axle) :
    (s.storeAxle a entry).lamp = true := by
  refine (foldl_keeps (fun t : State => t.modes.mode = .config ∧ t.lamp = true) State.fit (axlePositions a)
    (fun t p _ ht => ?_) { s with axles := s.axles.set (a - 1) entry } ⟨hconfig, hlamp⟩).2
  have hempty : ∀ x, (t.enterEmpty p x).lamp = true := fun x => State.lampRule_config ht.1
  cases hp : t.misfits p with
  | true =>
    rw [State.fit_misfit hp]
    exact ⟨ht.1, hempty _⟩
  | false => rwa [State.fit_in_line hp]

/-! ## SET_AXLE (R3) -/

section
variable {s : State} {a e1 e0 l1 l0 : Byte}

theorem ownSetAxle_refused {pr tw : Byte} (h : a.toNat = 0 ∨ 8 < a.toNat ∨ pr ∉ [0#8, 1#8] ∨ tw ∉ [0#8, 1#8]) :
    ownSetAxle [a, pr, tw, e1, e0, l1, l0] s = (s, ⟨.refused, some .badArgument, []⟩) := by
  unfold ownSetAxle
  dsimp only
  split
  · rename_i ha
    have hlast : a.toNat ≤ 8 := ha.2
    split
    · rename_i on twin hon htwin
      have hpr : pr ∈ [0#8, 1#8] := by
        by_contra hno
        rw [yesNoOf_eq_none hno] at hon
        cases hon
      have htw : tw ∈ [0#8, 1#8] := by
        by_contra hno
        rw [yesNoOf_eq_none hno] at htwin
        cases htwin
      rcases h with h | h | h | h
      · omega
      · omega
      · exact absurd hpr h
      · exact absurd htw h
    · rfl
  · rfl

/-- The axle entry that SET_AXLE stores (R3). -/
def axleEntry (present twin : Bool) (e1 e0 l1 l0 : Byte) : Axle :=
  ⟨present, twin, max 100 (min 4000 (256 * e1.toNat + e0.toNat)), max 100 (min 4000 (256 * l1.toNat + l0.toNat))⟩

theorem ownSetAxle_stores (h1 : 1 ≤ a.toNat) (h8 : a.toNat ≤ 8) (present twin : Bool) :
    ownSetAxle [a, yesNo present, yesNo twin, e1, e0, l1, l0] s =
      (s.storeAxle a.toNat (axleEntry present twin e1 e0 l1 l0),
        ⟨if (axleEntry present twin e1 e0 l1 l0).nominalEmpty = 256 * e1.toNat + e0.toNat ∧
            (axleEntry present twin e1 e0 l1 l0).nominalLaden = 256 * l1.toNat + l0.toNat then .done else .clamped, none,
          [a, yesNo present, yesNo twin] ++ u16 (axleEntry present twin e1 e0 l1 l0).nominalEmpty ++
            u16 (axleEntry present twin e1 e0 l1 l0).nominalLaden⟩) := by
  have hin : 1 ≤ a.toNat ∧ a.toNat ≤ Config.axles := ⟨h1, h8⟩
  simp only [ownSetAxle, if_pos hin, yesNoOf_yesNo, toNat_read16, clampNat_eq (show 100 ≤ 4000 by omega), Answer.doneOrClamped,
    Axle.bytes, axleEntry]
  refine congrArg (fun r => (_, (⟨r, none, _⟩ : Answer))) ?_
  simp only [Bool.or_eq_true, bne_iff_ne, ← not_and_or, ite_not]
  congr 1

end

/-- Settles O23: `State.foldl_fit_vacated` for the engine and the notices, `State.storeAxle_pos` for the records. -/
theorem setAxleFitsPositions : Obligations.SetAxleFitsPositions := by
  unfold Obligations.SetAxleFitsPositions
  intro s a e1 e0 l1 l0 hready hconfig
  have hmode : Command.acceptedIn .setAxle s.modes.mode = true := by rw [hconfig]; rfl
  refine ⟨fun pr tw hbad => ?refused, ?stored⟩
  case refused => exact exec_instr_onlyAnswers (c := .setAxle) hready rfl hmode (ownSetAxle_refused hbad)
  case stored =>
    intro present twin h1 h8 hlen haxles empty laden fits changes
    have hexec := exec_instr_effect .setAxle [a, yesNo present, yesNo twin, e1, e0, l1, l0] hready rfl hmode
      (ownSetAxle_stores (s := s.taking) h1 h8 present twin)
    have hchanges : ∀ p, changes p = (p / 4 + 1 == a.toNat && ((s.pos p).state == .absent) == fits p) := fun _ => rfl
    have hfits : ∀ p, fittedBy (axleEntry present twin e1 e0 l1 l0) p = fits p := fun _ => rfl
    have hlast : a.toNat ≤ s.taking.axles.length := h8.trans haxles.ge
    have hvacated : State.Vacated changes s.taking (s.taking.storeAxle a.toNat (axleEntry present twin e1 e0 l1 l0)) :=
      State.storeAxle_vacated (s := s.taking) h1 h8 hlast (axleEntry present twin e1 e0 l1 l0)
    have hlamp : (s.taking.storeAxle a.toNat (axleEntry present twin e1 e0 l1 l0)).lamp = true :=
      State.storeAxle_lamp (s := s.taking) hconfig (by simp [State.taking, State.framed, hconfig]) _ _
    have heq := s.taking.storeAxle_eq a.toNat (axleEntry present twin e1 e0 l1 l0)
    rw [hlamp, hvacated.engine] at heq
    have hpos : ∀ p < 32, (s.taking.storeAxle a.toNat (axleEntry present twin e1 e0 l1 l0)).pos p =
        if changes p then Position.emptied (if fits p then .vacant else .absent) s.seq.frameNumber else s.pos p := by
      intro p hp
      refine (State.storeAxle_pos (s := s.taking) h1 hlast (by exact hlen ▸ hp) _).trans ?_
      rw [hchanges, hfits, Position.fittedTo_eq]
      by_cases hp4 : p / 4 = a.toNat - 1
      · rw [if_pos hp4, show (p / 4 + 1 == a.toNat) = true by rw [beq_iff_eq]; omega, Bool.true_and]
        rfl
      · rw [if_neg hp4, show (p / 4 + 1 == a.toNat) = false by rw [beq_eq_false_iff_ne]; omega, Bool.false_and]
        rfl
    refine ⟨_, hexec, ?_⟩
    generalize s.taking.storeAxle a.toNat (axleEntry present twin e1 e0 l1 l0) = t at hvacated heq hpos
    exact ⟨State.withStore_congr heq _, rfl, hpos, hvacated.entries, hvacated.readings⟩

end Sys2Proof.Machine

/-! PROOF. ACK_ALARM: what one acknowledgement does, and many one after the other (R116, R117). -/

namespace Sys2Proof.Machine

/-! ## Acknowledging a list of sub-records -/

/-- A waiting ALARM notice of one of some sub-records (R117). -/
def Entry.alarmIn (xs : List (Nat × Kind)) (e : Entry) : Bool := e.waits && xs.any (fun x => e.notice.alarmFor x.1 x.2)

/-- The sub-records of a list have been acknowledged, with the two counts carried on (R117). -/
structure Acked (xs : List (Nat × Kind)) (a b : State × Nat × Nat) : Prop where
  frame : b.1 = { a.1 with positions := b.1.positions, store := b.1.store }
  entries : b.1.store.entries = a.1.store.entries.filter (fun e => !e.alarmIn xs)
  reply : b.1.store.reply = a.1.store.reply
  readings : b.1.store.readings = a.1.store.readings
  record : ∀ p, { b.1.pos p with alarms := (a.1.pos p).alarms } = a.1.pos p
  alarm : ∀ p k, (b.1.pos p).alarms.get k =
    { (a.1.pos p).alarms.get k with pending := ((a.1.pos p).alarms.get k).pending && !decide ((p, k) ∈ xs) }
  cleared : b.2.1 = a.2.1 + (xs.filter (fun x => ((a.1.pos x.1).alarms.get x.2).pending)).length
  withdrawn : b.2.2 = a.2.2 + (a.1.store.entries.filter (Entry.alarmIn xs)).length

theorem Acked.refl (a : State × Nat × Nat) : Acked [] a a := by
  have hnone : ∀ e : Entry, e.alarmIn [] = false := fun e => Bool.and_false _
  refine ⟨rfl, ?_, rfl, rfl, fun _ => rfl, fun _ _ => by simp, rfl, ?_⟩
  · simp [hnone]
  · simp [hnone]

theorem Entry.alarmIn_cons (x : Nat × Kind) (xs : List (Nat × Kind)) (e : Entry) :
    e.alarmIn (x :: xs) = (e.alarmIn [x] || e.alarmIn xs) := by
  simp [Entry.alarmIn, Bool.and_or_distrib_left]

/-- The matches of either of two tests, counted one test after the other. -/
theorem length_filter_or {α : Type} (f g : α → Bool) (l : List α) :
    (l.filter (fun a => f a || g a)).length = (l.filter f).length + ((l.filter (fun a => !f a)).filter g).length := by
  induction l with
  | nil => rfl
  | cons a l ih =>
    cases hf : f a <;> cases hg : g a <;> simp_all <;> omega

theorem Acked.cons {x : Nat × Kind} {xs : List (Nat × Kind)} {a b c : State × Nat × Nat} (hx : x ∉ xs) (h : Acked [x] a b)
    (h' : Acked xs b c) : Acked (x :: xs) a c := by
  have hcons : Entry.alarmIn (x :: xs) = fun e => e.alarmIn [x] || e.alarmIn xs :=
    funext (Entry.alarmIn_cons x xs)
  refine ⟨?_, ?_, h'.reply.trans h.reply, h'.readings.trans h.readings, fun p => ?_, fun p k => ?_, ?_, ?_⟩
  · rw [h'.frame, h.frame]
  · rw [h'.entries, h.entries, List.filter_filter]
    refine List.filter_congr fun e _ => ?_
    rw [Entry.alarmIn_cons x xs, Bool.not_or, Bool.and_comm]
  · have h1 := h.record p
    have h2 := h'.record p
    rw [← h2] at h1
    exact h1
  · rw [h'.alarm, h.alarm]
    simp [List.mem_cons, Bool.and_assoc]
  · have hsame : xs.filter (fun y => ((b.1.pos y.1).alarms.get y.2).pending) =
        xs.filter (fun y => ((a.1.pos y.1).alarms.get y.2).pending) := List.filter_congr fun y hy => by
      have hne : y ≠ x := fun hyx => hx (hyx ▸ hy)
      simp [h.alarm, hne]
    rw [h'.cleared, h.cleared, hsame]
    simp only [List.filter_cons, List.filter_nil]
    split
    · simp only [List.length_cons, List.length_nil]
      omega
    · simp
  · rw [h'.withdrawn, h.withdrawn, h.entries, hcons, length_filter_or, Nat.add_assoc]

theorem State.setAlarm_pos (s : State) (p q : Nat) (k : Kind) (a : SubRecord) : (s.setAlarm p k a).pos q =
    if q = p ∧ p < s.positions.length then { s.pos p with alarms := (s.pos p).alarms.put k a } else s.pos q :=
  State.setPos_pos _ _ _ _

theorem ackOne_acked (p : Nat) (k : Kind) (a : State × Nat × Nat) : Acked [(p, k)] a (ackOne p a k) := by
  have hone : ∀ e : Entry, e.alarmIn [(p, k)] = (e.waits && e.notice.alarmFor p k) := fun e => by simp [Entry.alarmIn]
  have hpos : ∀ q, (ackOne p a k).1.pos q = if q = p ∧ p < a.1.positions.length then
      { a.1.pos p with alarms := (a.1.pos p).alarms.put k { (a.1.pos p).alarms.get k with pending := false } } else a.1.pos q :=
    fun q => State.setAlarm_pos { a.1 with store := _ } p q k _
  refine ⟨rfl, ?_, rfl, rfl, fun q => ?_, fun q j => ?_, ?_, ?_⟩
  · simp only [hone]
    rfl
  · rw [hpos]
    split
    · rename_i h
      rw [h.1]
    · rfl
  · rw [hpos]
    split
    · rename_i h
      obtain ⟨rfl, _⟩ := h
      rw [PerKind.get_put]
      by_cases hj : j = k <;> simp [hj]
    · rename_i h
      by_cases hq : q = p
      · have hcold : a.1.pos q = Position.cold := State.pos_of_le (by subst hq; simpa using h)
        have hno : ((Position.cold).alarms.get j) = ⟨false, false, 0⟩ := Alarms.emptied_get .absent 0 j
        simp [hcold, hno]
      · simp [hq]
  · simp only [ackOne, List.filter_cons, List.filter_nil]
    split <;> rfl
  · have hlen := length_filter_or (fun e : Entry => e.alarmIn [(p, k)]) (fun _ => true) a.1.store.entries
    have hfun : Entry.alarmIn [(p, k)] = fun e => e.waits && e.notice.alarmFor p k := funext hone
    simp only [hfun, Bool.or_true, List.filter_true] at hlen ⊢
    simp only [ackOne, NoticeStore.withdraw]
    omega

theorem foldl_ackOne_acked {xs : List (Nat × Kind)} (hxs : xs.Nodup) (a : State × Nat × Nat) :
    Acked xs a (xs.foldl (fun acc x => ackOne x.1 acc x.2) a) := by
  induction xs generalizing a with
  | nil => exact Acked.refl a
  | cons x xs ih =>
    obtain ⟨hx, hxs⟩ := List.nodup_cons.mp hxs
    exact Acked.cons hx (ackOne_acked x.1 x.2 a) (ih hxs _)

/-! ## The sub-records that ACK_ALARM names (R116) -/

/-- Whether a notice is an ALARM notice of one of some sub-records (R117). -/
theorem any_alarmFor_alarm (xs : List (Nat × Kind)) (p : Nat) (k : Kind) (x : AlarmEvent) (f : FrameNo) (g : Option Nat)
    (c : Option Int) : xs.any (fun y => (Notice.alarm p k x f g c).alarmFor y.1 y.2) = decide ((p, k) ∈ xs) := by
  rw [Bool.eq_iff_iff, List.any_eq_true, decide_eq_true_iff]
  constructor
  · rintro ⟨⟨q, j⟩, hmem, h⟩
    obtain ⟨hq, hj⟩ := Bool.and_eq_true_iff.mp h
    rw [beq_iff_eq.mp hq, beq_iff_eq.mp hj]
    exact hmem
  · exact fun h => ⟨(p, k), h, by simp [Notice.alarmFor]⟩

/-- The sub-records of some positions and a set of kinds, by position and then kind order. -/
def namedRecords (ps : List Nat) (ks : KindSet) : List (Nat × Kind) :=
  ps.flatMap (fun p => (Kind.all.filter (fun k => kindIn k ks)).map (Prod.mk p))

theorem Kind.mem_all (k : Kind) : k ∈ Kind.all := by cases k <;> decide

theorem mem_namedRecords {ps : List Nat} {ks : KindSet} {p : Nat} {k : Kind} :
    (p, k) ∈ namedRecords ps ks ↔ p ∈ ps ∧ kindIn k ks = true := by
  simp [namedRecords, Kind.mem_all]

theorem namedRecords_nodup {ps : List Nat} (hps : ps.Nodup) (ks : KindSet) : (namedRecords ps ks).Nodup := by
  have hkinds : (Kind.all.filter (fun k => kindIn k ks)).Nodup := List.Nodup.filter _ (by decide)
  refine List.nodup_flatMap.mpr ⟨fun p _ => hkinds.map (Prod.mk_right_injective p), hps.imp fun {p q} hne => ?_⟩
  intro x hx hy
  simp only [List.mem_map] at hx hy
  obtain ⟨k, _, rfl⟩ := hx
  obtain ⟨j, _, hj⟩ := hy
  exact hne (congrArg Prod.fst hj).symm

theorem foldl_ackPosition (ks : KindSet) (ps : List Nat) (a : State × Nat × Nat) :
    ps.foldl (ackPosition ks) a = (namedRecords ps ks).foldl (fun acc x => ackOne x.1 acc x.2) a := by
  rw [namedRecords, List.foldl_flatMap]
  simp only [List.foldl_map]
  rfl

theorem filter_namedRecords_length (f : Nat × Kind → Bool) (ps : List Nat) (ks : KindSet) :
    ((namedRecords ps ks).filter f).length =
      (ps.map (fun p => (Kind.all.filter (fun k => kindIn k ks && f (p, k))).length)).sum := by
  induction ps with
  | nil => rfl
  | cons p ps ih =>
    have hsplit : namedRecords (p :: ps) ks = (Kind.all.filter (fun k => kindIn k ks)).map (Prod.mk p) ++ namedRecords ps ks := rfl
    rw [hsplit, List.filter_append, List.length_append, ih, List.map_cons, List.sum_cons, List.filter_map, List.length_map,
      List.filter_filter]
    simp only [Function.comp_apply, Bool.and_comm]

/-- The positions named are those of the table that meet a test. -/
theorem sum_filter_positions (g : Nat → Nat) (named : Nat → Bool) (l : List Nat) :
    ((l.filter named).map g).sum = (l.map (fun p => if named p then g p else 0)).sum := by
  induction l with
  | nil => rfl
  | cons p l ih =>
    cases hp : named p <;> simp [hp, ih]

theorem allPositions_nodup : allPositions.Nodup := List.nodup_range

theorem filter_allPositions_eq {p : Nat} (hp : p < 32) : allPositions.filter (fun q => decide (p = q)) = [p] := by
  have heq : (fun q => decide (p = q)) = fun q => q == p := funext fun q => by simp [eq_comm, beq_eq_decide]
  rw [heq, List.filter_beq, List.count_eq_one_of_mem allPositions_nodup (mem_allPositions.mpr hp)]
  rfl

/-! ## ACK_ALARM's owner -/

theorem State.withLampStore_congr {s t : State} (h : s = t) (lamp : Bool) (st : NoticeStore) :
    { s with lamp := lamp, store := st } = { t with lamp := lamp, store := st } := by
  rw [h]

section
variable {s : State} {t k1 k0 : Byte}

theorem targetOf_of_lt (h : t.toNat < 32) : targetOf t = some (.position t.toNat) := by
  have hne : t ≠ 0xFF#8 := fun ht => by rw [ht] at h; exact absurd h (by decide)
  simp [targetOf, hne, indexOf_of_lt h]

theorem targetOf_all : targetOf 0xFF#8 = some .all := rfl

theorem targetOf_none (h : 32 ≤ t.toNat) (hne : t ≠ 0xFF#8) : targetOf t = none := by
  simp [targetOf, hne, indexOf_of_le h]

/-- The positions named, by one test of a position (R116). -/
def ackNames (s : State) (t : Byte) (p : Nat) : Bool := decide (t = 0xFF#8) && (s.pos p).state.bound || decide (t.toNat = p)

/-- A target that passes the checks names positions of the table (R116). -/
theorem targetOf_names (h : t = 0xFF#8 ∨ (t.toNat < 32 ∧ (s.pos t.toNat).state.bound = true)) :
    ∃ target, targetOf t = some target ∧ ackNotBound s target = false ∧
      ackPositions s target = allPositions.filter (ackNames s t) := by
  rcases h with rfl | ⟨hlt, hbound⟩
  · refine ⟨.all, rfl, rfl, List.filter_congr fun p hp => ?_⟩
    have hne : (0xFF#8 : Byte).toNat ≠ p := by
      have := mem_allPositions.mp hp
      have : (0xFF#8 : Byte).toNat = 255 := rfl
      omega
    simp [ackNames, show 255 ≠ p from hne]
  · have hne : t ≠ 255#8 := fun ht => by rw [ht] at hlt; exact absurd hlt (by decide)
    refine ⟨.position t.toNat, targetOf_of_lt hlt, by simp [ackNotBound, hbound], ?_⟩
    have hnames : ackNames s t = fun p => decide (t.toNat = p) := funext fun p => by simp [ackNames, hne]
    rw [hnames, filter_allPositions_eq hlt]
    rfl

theorem kindSetField_some (h : (k1 ++ k0 : BitVec 16).toNat < 1024) : kindSetField k1 k0 = some ((k1 ++ k0 : BitVec 16).setWidth 10) :=
  if_pos h

theorem kindSetField_none (h : 1024 ≤ (k1 ++ k0 : BitVec 16).toNat) : kindSetField k1 k0 = none := if_neg (Nat.not_lt.mpr h)

theorem setWidth_eq_zero_iff {kinds : BitVec 16} (h : kinds.toNat < 1024) : kinds.setWidth 10 = 0#10 ↔ kinds = 0#16 := by
  rw [← BitVec.toNat_inj, ← BitVec.toNat_inj, BitVec.toNat_setWidth, Nat.mod_eq_of_lt h]
  rfl

theorem kindIn_setWidth (k : Kind) (kinds : BitVec 16) : kindIn k (kinds.setWidth 10) = kinds.getLsbD k.index := by
  have hlt : k.index < 10 := by cases k <;> decide
  simp [kindIn, hlt]

theorem ownAckAlarm_badArgument (h : (32 ≤ t.toNat ∧ t ≠ 0xFF#8) ∨ (k1 ++ k0 : BitVec 16) = 0#16 ∨ 1024 ≤ (k1 ++ k0 : BitVec 16).toNat) :
    ownAckAlarm [t, k1, k0] s = (s, ⟨.refused, some .badArgument, []⟩) := by
  unfold ownAckAlarm
  dsimp only
  split
  · rename_i target ks ht hks
    have hlt : (k1 ++ k0 : BitVec 16).toNat < 1024 := by
      by_contra hge
      rw [kindSetField_none (Nat.not_lt.mp hge)] at hks
      cases hks
    have hzero : (k1 ++ k0 : BitVec 16) = 0#16 := by
      rcases h with ⟨hle, hne⟩ | h | h
      · rw [targetOf_none hle hne] at ht
        cases ht
      · exact h
      · omega
    rw [kindSetField_some hlt, hzero] at hks
    obtain rfl := Option.some.inj hks
    rfl
  · rfl

theorem ownAckAlarm_notBound (ht : t.toNat < 32) (hne : (k1 ++ k0 : BitVec 16) ≠ 0#16) (hlt : (k1 ++ k0 : BitVec 16).toNat < 1024)
    (hb : (s.pos t.toNat).state.bound = false) : ownAckAlarm [t, k1, k0] s = (s, ⟨.refused, some .notBound, []⟩) := by
  have hks : (k1 ++ k0 : BitVec 16).setWidth 10 ≠ 0#10 := fun h => hne ((setWidth_eq_zero_iff hlt).mp h)
  simp only [ownAckAlarm, targetOf_of_lt ht, kindSetField_some hlt, if_neg hks, ackNotBound, hb, Bool.not_false, if_true,
    Answer.refused]

/-- An accepted ACK_ALARM acknowledges the sub-records it names and judges LAMP again (R117). -/
theorem ownAckAlarm_acknowledges (ht : t = 0xFF#8 ∨ (t.toNat < 32 ∧ (s.pos t.toNat).state.bound = true))
    (hne : (k1 ++ k0 : BitVec 16) ≠ 0#16) (hlt : (k1 ++ k0 : BitVec 16).toNat < 1024) : ∃ r,
      Acked (namedRecords (allPositions.filter (ackNames s t)) ((k1 ++ k0 : BitVec 16).setWidth 10)) (s, 0, 0) r ∧
      ownAckAlarm [t, k1, k0] s = (r.1.judgeLamp, ⟨.done, none, u16 r.2.1 ++ [u8 r.2.2]⟩) := by
  obtain ⟨target, htarget, hbound, hps⟩ := targetOf_names ht
  have hks : (k1 ++ k0 : BitVec 16).setWidth 10 ≠ 0#10 := fun h => hne ((setWidth_eq_zero_iff hlt).mp h)
  refine ⟨_, foldl_ackOne_acked (namedRecords_nodup (List.Nodup.filter _ allPositions_nodup) _) _, ?_⟩
  simp only [ownAckAlarm, htarget, kindSetField_some hlt, if_neg hks, hbound, Bool.false_eq_true, if_false, Answer.done,
    State.acknowledge, hps, foldl_ackPosition]

end

/-- Settles O27: the checks of the owner, then `Acked` for the sub-records named. -/
theorem ackAlarmClearsPending : Obligations.AckAlarmClearsPending := by
  unfold Obligations.AckAlarmClearsPending
  intro s t k1 k0 hready _ payload kinds hit gone
  refine ⟨fun hbad => ?badArgument, fun ht hne hlt hb => ?notBound, fun ht hne hlt => ?acknowledged⟩
  case badArgument => exact exec_instr_onlyAnswers (c := .ackAlarm) hready rfl rfl (ownAckAlarm_badArgument hbad)
  case notBound =>
    exact exec_instr_onlyAnswers (c := .ackAlarm) hready rfl rfl (ownAckAlarm_notBound (s := s.taking) ht hne hlt hb)
  case acknowledged =>
    obtain ⟨r, hacked, hown⟩ := ownAckAlarm_acknowledges (s := s.taking) ht hne hlt
    have hexec := exec_instr_effect .ackAlarm [t, k1, k0] hready rfl rfl hown
    generalize hxs : namedRecords (allPositions.filter (ackNames s.taking t)) (kinds.setWidth 10) = xs at hacked
    have hhit : ∀ p k, decide ((p, k) ∈ xs) = hit p k := fun p k => by
      rw [← hxs, Bool.eq_iff_iff, decide_eq_true_iff, mem_namedRecords, List.mem_filter, mem_allPositions, kindIn_setWidth]
      show _ ↔ (decide (p < 32) && ackNames s t p && kinds.getLsbD k.index) = true
      rw [Bool.and_eq_true, Bool.and_eq_true, decide_eq_true_iff]
      rfl
    have hgone : Entry.alarmIn xs = gone := funext fun e => by
      obtain ⟨n, priority, state⟩ := e
      refine congrArg (Entry.waits ⟨n, priority, state⟩ && ·) ?_
      show xs.any (fun y => n.alarmFor y.1 y.2) = _
      cases n with
      | alarm p k => exact (any_alarmFor_alarm xs p k _ _ _ _).trans (hhit p k)
      | _ => exact List.any_eq_false.mpr fun _ _ => Bool.false_ne_true
    have hcleared : r.2.1 = (allPositions.map (fun p =>
        (Kind.all.filter (fun k => hit p k && ((s.pos p).alarms.get k).pending)).length)).sum := by
      rw [hacked.cleared, Nat.zero_add, ← hxs, filter_namedRecords_length, sum_filter_positions]
      refine congrArg List.sum (List.map_congr_left fun p hp => ?_)
      have hp32 := mem_allPositions.mp hp
      show _ = (Kind.all.filter (fun k => decide (p < 32) && ackNames s t p && kinds.getLsbD k.index &&
        ((s.pos p).alarms.get k).pending)).length
      have htaking : ackNames s.taking t p = ackNames s t p := rfl
      simp only [htaking, kindIn_setWidth, hp32, decide_true, Bool.true_and]
      cases ackNames s t p
      · simp
      · simp only [Bool.true_and, if_true]
        rfl
    have hwithdrawn : r.2.2 = (s.store.entries.filter gone).length := by
      rw [hacked.withdrawn, Nat.zero_add, hgone]
      rfl
    refine ⟨_, hexec, ?frame, ?entries, hacked.readings, ?reply, fun p hp => ⟨hacked.record p, fun k => ?subRecord⟩⟩
    case frame => exact State.withLampStore_congr hacked.frame r.1.lampRule _
    case entries => exact hacked.entries.trans (by rw [← hgone]; rfl)
    case reply => rw [← hcleared, ← hwithdrawn]; rfl
    case subRecord => exact (hacked.alarm p k).trans (by rw [hhit]; rfl)

end Sys2Proof.Machine

/-! PROOF. GET_SUMMARY and the priority order of the pending alarms (R121, R122, R178). -/

namespace Sys2Proof.Machine

/-! ## Kind sets bit by bit (R173) -/

theorem Kind.index_lt (k : Kind) : k.index < 10 := by cases k <;> decide

theorem Kind.index_inj {k j : Kind} (h : k.index = j.index) : k = j := by
  revert h
  cases k <;> cases j <;> decide

theorem foldl_kindBits (f : Kind → Bool) (ks : List Kind) (m : KindSet) (i : Nat) :
    (ks.foldl (fun m k => if f k then m ||| (1#10 <<< k.index) else m) m).getLsbD i =
      (m.getLsbD i || ks.any (fun k => f k && k.index == i)) := by
  induction ks generalizing m with
  | nil => simp
  | cons k ks ih =>
    have hbit : (1#10 <<< k.index).getLsbD i = (k.index == i) := by
      rw [BitVec.getLsbD_shiftLeft, BitVec.getLsbD_one]
      have hk := k.index_lt
      rw [Bool.eq_iff_iff]
      simp only [Bool.and_eq_true, decide_eq_true_eq, Bool.not_eq_true', decide_eq_false_iff_not, beq_iff_eq]
      omega
    rw [List.foldl_cons, ih, List.any_cons]
    cases f k with
    | true => simp [hbit, Bool.or_assoc]
    | false => simp

theorem getLsbD_kindSetOf (f : Kind → Bool) (i : Nat) : (kindSetOf f).getLsbD i = Kind.all.any (fun k => f k && k.index == i) := by
  rw [kindSetOf, foldl_kindBits, BitVec.getLsbD_zero, Bool.false_or]

theorem kindIn_kindSetOf (f : Kind → Bool) (k : Kind) : kindIn k (kindSetOf f) = f k := by
  rw [kindIn, getLsbD_kindSetOf, Bool.eq_iff_iff, List.any_eq_true]
  constructor
  · rintro ⟨j, _, h⟩
    obtain ⟨hf, hi⟩ := Bool.and_eq_true_iff.mp h
    exact Kind.index_inj (beq_iff_eq.mp hi) ▸ hf
  · exact fun h => ⟨k, k.mem_all, by simp [h]⟩

/-! ## The order of the pending alarms (R121) -/

/-- The priority order of two alarms of one class: position, then kind (R121). -/
def alarmBefore (x y : Nat × Kind) : Prop := x.1 < y.1 ∨ (x.1 = y.1 ∧ x.2.index < y.2.index)

theorem mem_pendingOfClass {s : State} {cls : Fin 3} {p : Nat} {k : Kind} : (p, k) ∈ s.pendingOfClass cls ↔
    p < 32 ∧ ((s.pos p).alarms.get k).pending = true ∧ (s.kinds.get k).cls = cls := by
  simp only [State.pendingOfClass, List.mem_flatten, List.mem_map, List.mem_filter, exists_exists_and_eq_and, mem_allPositions,
    Prod.mk.injEq, Bool.and_eq_true, beq_iff_eq]
  constructor
  · rintro ⟨q, hq, j, ⟨_, hpending, hcls⟩, rfl, rfl⟩
    exact ⟨hq, hpending, hcls⟩
  · rintro ⟨hp, hpending, hcls⟩
    exact ⟨p, hp, k, ⟨k.mem_all, hpending, hcls⟩, rfl, rfl⟩

theorem pendingOfClass_pairwise (s : State) (cls : Fin 3) : (s.pendingOfClass cls).Pairwise alarmBefore := by
  have hkinds : Kind.all.Pairwise (fun j k => j.index < k.index) := by decide
  have hpositions : allPositions.Pairwise (· < ·) := List.pairwise_lt_range
  refine List.pairwise_flatten.mpr ⟨?_, ?_⟩
  · intro l hl
    obtain ⟨p, _, rfl⟩ := List.mem_map.mp hl
    exact List.pairwise_map.mpr ((hkinds.filter _).imp fun h => .inr ⟨rfl, h⟩)
  · refine List.pairwise_map.mpr (hpositions.imp fun {p q} hpq x hx y hy => ?_)
    obtain ⟨j, _, rfl⟩ := List.mem_map.mp hx
    obtain ⟨k, _, rfl⟩ := List.mem_map.mp hy
    exact .inl hpq

theorem mem_pendingAlarms {s : State} {p : Nat} {k : Kind} :
    (p, k) ∈ s.pendingAlarms ↔ p < 32 ∧ ((s.pos p).alarms.get k).pending = true := by
  simp only [State.pendingAlarms, List.mem_append, mem_pendingOfClass]
  have hcls : ∀ c : Fin 3, c = 2 ∨ c = 1 ∨ c = 0 := by decide
  have := hcls (s.kinds.get k).cls
  tauto

/-- The order of the pending alarms: class first, the higher before the lower (R121). -/
theorem pendingAlarms_pairwise (s : State) : s.pendingAlarms.Pairwise (fun x y =>
    (s.kinds.get y.2).cls < (s.kinds.get x.2).cls ∨ ((s.kinds.get y.2).cls = (s.kinds.get x.2).cls ∧ alarmBefore x y)) := by
  have hcls : ∀ {cls : Fin 3} {x : Nat × Kind}, x ∈ s.pendingOfClass cls → (s.kinds.get x.2).cls = cls :=
    fun h => (mem_pendingOfClass.mp h).2.2
  have hwithin : ∀ cls : Fin 3, (s.pendingOfClass cls).Pairwise (fun x y =>
      (s.kinds.get y.2).cls < (s.kinds.get x.2).cls ∨ ((s.kinds.get y.2).cls = (s.kinds.get x.2).cls ∧ alarmBefore x y)) :=
    fun cls => (pendingOfClass_pairwise s cls).imp_of_mem fun hx hy h => .inr ⟨(hcls hy).trans (hcls hx).symm, h⟩
  refine List.pairwise_append.mpr ⟨List.pairwise_append.mpr ⟨hwithin 2, hwithin 1, fun x hx y hy => .inl ?_⟩, hwithin 0,
    fun x hx y hy => .inl ?_⟩
  · rw [hcls hx, hcls hy]
    decide
  · rw [hcls hy]
    rcases List.mem_append.mp hx with hx | hx <;> rw [hcls hx] <;> decide

/-- Settles O14: the three classes one after the other, each by position and kind; the sets bit by bit. -/
theorem summaryListsPendingAlarms : Obligations.SummaryListsPendingAlarms := by
  unfold Obligations.SummaryListsPendingAlarms
  refine fun s hready => ⟨exec_instr_onlyAnswers (c := .getSummary) hready rfl rfl rfl, fun p k => mem_pendingAlarms,
    pendingAlarms_pairwise s, fun p k => ⟨rfl, kindIn_kindSetOf (fun k => ((s.pos p).alarms.get k).pending) k⟩, fun p => ?sets⟩
  case sets =>
    have hbit : ∀ (f : Kind → Bool) (k : Kind), ((kindSetOf f).setWidth 16).getLsbD k.index = f k := fun f k => by
      have hk := k.index_lt
      rw [BitVec.getLsbD_setWidth, ← kindIn_kindSetOf f k, kindIn, decide_eq_true (by omega), Bool.true_and]
    have hhigh : ∀ (f : Kind → Bool) (i : Nat), 10 ≤ i → ((kindSetOf f).setWidth 16).getLsbD i = false := fun f i hi => by
      rw [BitVec.getLsbD_setWidth, BitVec.getLsbD_of_ge _ _ hi, Bool.and_false]
    exact ⟨(kindSetOf (fun k => ((s.pos p).alarms.get k).active)).setWidth 16,
      (kindSetOf (fun k => ((s.pos p).alarms.get k).pending)).setWidth 16, rfl, fun k => ⟨hbit _ k, hbit _ k⟩,
      fun i hi => ⟨hhigh _ i hi, hhigh _ i hi⟩⟩

end Sys2Proof.Machine

/-! PROOF. The control frames of replies and notices (R151, R154, R173, R177, R179). -/

namespace Sys2Proof.Machine

/-! ## The check of a control frame (R154) -/

/-- A step read on the register's top bit. -/
theorem crc16Step_eq : crc16Step = fun r : BitVec 16 => if r.getLsbD 15 then (r <<< 1) ^^^ 0x1021#16 else r <<< 1 :=
  funext fun r => by rw [crc16Step, BitVec.msb_eq_getLsbD_last]

theorem shifted_byte (b : Byte) : BitVec.setWidth 16 b <<< 8 = b ++ 0#8 := by
  apply BitVec.eq_of_getLsbD_eq
  intro i hi
  rw [BitVec.getLsbD_append, BitVec.getLsbD_shiftLeft, BitVec.getLsbD_setWidth]
  by_cases h : i < 8
  · simp [h]
  · have hlow : i - 8 < 16 := by omega
    simp [h, hi, hlow]

theorem crc16_append (bytes : List Byte) (b : Byte) : crc16 (bytes ++ [b]) = crc16Step^[8] (crc16 bytes ^^^ (b ++ 0#8)) := by
  rw [crc16, List.foldl_append, ← shifted_byte]
  rfl

/-! ## The bytes of a frame (R151) -/

theorem Notice.frame_eq {n : Notice} {kind : Byte} {length : Nat} {payload : List Byte} (hk : n.kindByte = kind)
    (hp : n.payload = payload) (hl : payload.length = length) : payload.length = length ∧ n.frame =
      [0xA5#8, BitVec.ofNat 8 length, kind] ++ payload ++ bytes16 (crc16 (BitVec.ofNat 8 length :: kind :: payload)) := by
  refine ⟨hl, ?_⟩
  rw [Notice.frame, hk, hp, ← hl]
  simp [controlFrame, u8]

theorem Reply.frame_eq (echoed : Byte) (x : ReplyResult) (why : Option Reason) (data : List Byte) :
    Reply.frame ⟨echoed, ⟨x, why, data⟩⟩ =
      [0xA5#8, BitVec.ofNat 8 (data.length + 3), 0x80#8, echoed, x.code, optCode Reason.code why] ++ data ++
        bytes16 (crc16 ([BitVec.ofNat 8 (data.length + 3), 0x80#8, echoed, x.code, optCode Reason.code why] ++ data)) := by
  simp [Reply.frame, Reply.payload, controlFrame, u8]

theorem telegramKindOf_eq_some_iff (b : Byte) (k : TelegramKind) :
    telegramKindOf b = some k ↔ (b = 0x3C#8 ∧ k = .report) ∨ (b = 0x3D#8 ∧ k = .join) := by
  unfold telegramKindOf
  by_cases h : b = 0x3C#8
  · subst h
    simp [eq_comm]
  · by_cases h' : b = 0x3D#8 <;> simp [h, h', eq_comm]

/-- Settles O15: each payload is the model's own up to the case of an optional field. -/
theorem repliesAndNoticesHaveTheirLayout : Obligations.RepliesAndNoticesHaveTheirLayout := by
  unfold Obligations.RepliesAndNoticesHaveTheirLayout
  intro two four optTwo framed
  have hopt16 : ∀ x : Option Nat, optField 2 u16 x = optTwo (x.map (BitVec.ofNat 16)) := fun x => by cases x <;> rfl
  have hopti16 : ∀ x : Option Int, optField 2 i16 x = optTwo (x.map (BitVec.ofInt 16)) := fun x => by cases x <;> rfl
  have hframe : ∀ {n : Notice} {kind : Byte} {length : Nat} {payload : List Byte}, n.kindByte = kind → n.payload = payload →
      n.payload.length = length → framed n kind length payload := fun hk hp hl => Notice.frame_eq hk hp (hp ▸ hl)
  have hlen16 : ∀ x : Option Nat, (optField 2 u16 x).length = 3 := length_optField fun _ => rfl
  have hleni16 : ∀ x : Option Int, (optField 2 i16 x).length = 3 := length_optField fun _ => rfl
  refine ⟨⟨rfl, fun bytes b => ?check⟩, ?codes, fun echoed x why data hdata => ?reply, fun p k e f c t => ?alarmFrame,
    fun p i o => ?bindFrame, fun m c => ?modeFrame, fun c f => ?conditionFrame, fun i ch trigger pc tc => ?candidateFrame,
    fun p h c t b r f => ?readingFrame⟩
  case check => rw [← crc16Step_eq]; exact crc16_append bytes b
  case codes =>
    exact ⟨rfl, rfl, rfl, rfl, rfl, rfl, rfl, rfl, telegramKindOf_eq_some_iff⟩
  case reply =>
    intro result reason length
    have hresult : x.code = result := by cases x <;> rfl
    have hreason : optCode Reason.code why = reason := by
      cases why with
      | none => rfl
      | some r => cases r <;> rfl
    exact (Reply.frame_eq echoed x why data).trans (by rw [hresult, hreason]; rfl)
  case alarmFrame =>
    refine hframe rfl ?_ ?_
    · rw [← hopt16, ← hopti16]
      cases e <;> rfl
    · simp [Notice.payload, hlen16, hleni16, bytes32]
  case bindFrame =>
    refine hframe rfl ?_ ?_
    · cases i <;> cases o <;> rfl
    · cases i <;> rfl
  case modeFrame =>
    refine hframe rfl ?_ rfl
    cases c <;> rfl
  case conditionFrame => exact hframe rfl rfl rfl
  case candidateFrame =>
    refine hframe rfl ?_ rfl
    cases ch <;> rfl
  case readingFrame =>
    refine hframe rfl ?_ ?_
    · rw [← hopt16, ← hopt16, ← hopti16, ← hopti16]
      rfl
    · simp [Notice.payload, hlen16, hleni16, bytes32]

end Sys2Proof.Machine

/-! PROOF. The link's check byte, telegrams and beacons read back, and bursts with one changed byte (R30, R174, R175). -/

namespace Sys2Proof.Machine

/-! ## The check byte (R30) -/

theorem crc8Step_eq : crc8Step = fun r : BitVec 8 => if r.getLsbD 7 then (r <<< 1) ^^^ 0x2F#8 else r <<< 1 :=
  funext fun r => by rw [crc8Step, BitVec.msb_eq_getLsbD_last]

theorem crc8_append (bytes : List Byte) (b : Byte) : crc8 (bytes ++ [b]) = crc8Step^[8] (crc8 bytes ^^^ b) := by
  rw [crc8, List.foldl_append]
  rfl

/-- A step can be undone: its lowest bit tells which of its two forms was taken. -/
theorem crc8Step_injective : Function.Injective crc8Step := by
  intro r r' h
  rw [crc8Step_eq] at h
  have hlow : ∀ q : BitVec 8, (if q.getLsbD 7 then (q <<< 1) ^^^ 0x2F#8 else q <<< 1).getLsbD 0 = q.getLsbD 7 := fun q => by
    cases hq : q.getLsbD 7 <;> simp
  have htop : r.getLsbD 7 = r'.getLsbD 7 := by
    rw [← hlow r, ← hlow r']
    exact congrArg (fun q : BitVec 8 => q.getLsbD 0) h
  have hshift : r <<< 1 = r' <<< 1 := by
    dsimp only at h
    rw [htop] at h
    split at h
    · exact (BitVec.xor_left_inj _).mp h
    · exact h
  apply BitVec.eq_of_getLsbD_eq
  intro i hi
  rcases Nat.lt_or_ge i 7 with h7 | h7
  · have hbit := congrArg (fun q : BitVec 8 => q.getLsbD (i + 1)) hshift
    have h8 : i + 1 < 8 := by omega
    have h1 : ¬i + 1 < 1 := by omega
    simpa only [BitVec.getLsbD_shiftLeft, h8, h1, decide_true, decide_false, Bool.not_false, Bool.true_and,
      Nat.add_sub_cancel] using hbit
  · rw [show i = 7 by omega]
    exact htop

/-- The check of a burst, from a register (R30). -/
def crc8From (r : BitVec 8) (bytes : List Byte) : BitVec 8 := bytes.foldl (fun r b => Nat.repeat crc8Step 8 (r ^^^ b)) r

theorem crc8_eq_from (bytes : List Byte) : crc8 bytes = crc8From 0xFF#8 bytes := rfl

theorem repeat_crc8Step_injective : Function.Injective (Nat.repeat crc8Step 8) := crc8Step_injective.iterate 8

theorem crc8From_injective (bytes : List Byte) : Function.Injective (fun r => crc8From r bytes) := by
  induction bytes with
  | nil => exact fun _ _ h => h
  | cons b bytes ih => exact fun r r' h => (BitVec.xor_left_inj b).mp (repeat_crc8Step_injective (ih h))

/-- A changed byte changes the check. -/
theorem crc8_set_ne {body : List Byte} {i : Nat} (hi : i < body.length) {x : Byte} (hx : x ≠ body[i]) :
    crc8 (body.set i x) ≠ crc8 body := by
  intro h
  have hbody : body = body.take i ++ body[i] :: body.drop (i + 1) := by simp
  have hset : body.set i x = body.take i ++ x :: body.drop (i + 1) := List.set_eq_take_append_cons_drop.trans (if_pos hi)
  have hsplit : ∀ (pre post : List Byte) (b : Byte),
      crc8 (pre ++ b :: post) = crc8From (Nat.repeat crc8Step 8 (crc8 pre ^^^ b)) post := fun pre post b => by
    rw [crc8_eq_from, crc8From, List.foldl_append]
    rfl
  rw [hset, hsplit] at h
  conv_rhs at h => rw [hbody, hsplit]
  exact hx ((BitVec.xor_right_inj _).mp (repeat_crc8Step_injective (crc8From_injective _ h)))

/-! ## One changed byte (R30) -/

theorem integrity_crc8Holds {burst : List Byte} (h : (integrity burst).isSome = true) : crc8Holds burst = true := by
  unfold integrity at h
  split at h
  · exact absurd h (by simp)
  · split at h
    · split at h
      · rename_i hc
        exact hc.2
      · exact absurd h (by simp)
    · split at h
      · rename_i hc
        exact hc.2.2
      · exact absurd h (by simp)

theorem crc8Holds_append (body : List Byte) (c : Byte) : crc8Holds (body ++ [c]) = (c == crc8 body) := by
  rw [crc8Holds, List.getLast?_concat, List.dropLast_concat]
  rfl

theorem crc8Holds_set {burst : List Byte} {i : Nat} {x : Byte} (hi : i < burst.length) (hx : x ≠ burst[i])
    (h : crc8Holds burst = true) : crc8Holds (burst.set i x) = false := by
  obtain ⟨body, c, rfl⟩ : ∃ body c, burst = body ++ [c] :=
    ⟨_, _, (List.dropLast_append_getLast (List.ne_nil_of_length_pos (by omega))).symm⟩
  rw [crc8Holds_append, beq_iff_eq] at h
  rw [List.length_append, List.length_singleton] at hi
  rcases Nat.lt_or_ge i body.length with hlt | hge
  · rw [List.set_append_left _ _ hlt, crc8Holds_append, beq_eq_false_iff_ne, h]
    rw [List.getElem_append_left hlt] at hx
    exact (crc8_set_ne hlt hx).symm
  · obtain rfl : i = body.length := by omega
    rw [List.set_append_right _ _ le_rfl, Nat.sub_self, List.set_cons_zero, crc8Holds_append, beq_eq_false_iff_ne, ← h]
    simpa using hx

/-! ## The row of a radio arrival (R29, R30, R31) -/

section
variable {s : State} {ch : Channel} {slot : Nat} {burst : List Byte}

theorem exec_radioArrival_deaf (h : s.hears = false) : exec (.radioArrival ch slot burst) s = .next s :=
  congrArg _ (if_neg (by simp [h]))

theorem exec_radioArrival_telegram {t : Telegram} (h : s.hears = true) (hb : integrity burst = some (.telegram t)) :
    exec (.radioArrival ch slot burst) s = .next (s.arrive t slot ch) :=
  congrArg _ ((if_pos h).trans (by rw [hb]))

theorem exec_radioArrival_none (hb : integrity burst = none) : exec (.radioArrival ch slot burst) s = .next s := by
  show execRadioArrival ch slot burst s = _
  rw [execRadioArrival, hb, ite_self]

theorem exec_radioArrival_beacon {v : BitVec 16} (hb : integrity burst = some (.beacon v)) :
    exec (.radioArrival ch slot burst) s = .next s := by
  show execRadioArrival ch slot burst s = _
  rw [execRadioArrival, hb, ite_self]

end

/-- Settles O31: the changed byte breaks the check byte. -/
theorem oneByteErrorsAreDiscarded : Obligations.OneByteErrorsAreDiscarded := by
  unfold Obligations.OneByteErrorsAreDiscarded
  intro burst i x ch slot s hsome hi hx
  have hnone : integrity (burst.set i x) = none := by
    by_contra hne
    have hholds := integrity_crc8Holds (Option.isSome_iff_ne_none.mpr hne)
    rw [crc8Holds_set hi hx (integrity_crc8Holds hsome)] at hholds
    exact absurd hholds (by decide)
  exact ⟨hnone, exec_radioArrival_none hnone⟩

/-! ## Telegrams read back (R174) -/

theorem read32_bytes32 (x : BitVec 32) :
    read32 ((x >>> 24).setWidth 8) ((x >>> 16).setWidth 8) ((x >>> 8).setWidth 8) (x.setWidth 8) = x := by
  apply BitVec.eq_of_getLsbD_eq
  intro i hi
  simp only [read32, BitVec.getLsbD_append, BitVec.getLsbD_setWidth, BitVec.getLsbD_ushiftRight]
  rcases Nat.lt_or_ge i 8 with h | h8
  · simp [h]
  rcases Nat.lt_or_ge i 16 with h | h16
  · have hlow : i - 8 < 8 := by omega
    have hsum : 8 + (i - 8) = i := by omega
    simp [Nat.not_lt.mpr h8, hlow, hsum]
  rcases Nat.lt_or_ge i 24 with h | h24
  · have hmid : ¬i - 8 < 8 := by omega
    have hlow : i - 8 - 8 < 8 := by omega
    have hsum : 16 + (i - 8 - 8) = i := by omega
    simp [Nat.not_lt.mpr h8, hmid, hlow, hsum]
  · have hmid : ¬i - 8 < 8 := by omega
    have hmid' : ¬i - 8 - 8 < 8 := by omega
    have hlow : i - 8 - 8 - 8 < 8 := by omega
    have hsum : 24 + (i - 8 - 8 - 8) = i := by omega
    simp [Nat.not_lt.mpr h8, hmid, hmid', hlow, hsum]

/-- The pressure code from its upper byte and the upper half of the byte that follows (R174). -/
theorem pressureCode_halves (p : BitVec 12) (reserved : BitVec 1) (battery : BitVec 3) :
    p.extractLsb' 4 8 ++ ((p.extractLsb' 0 4 ++ reserved ++ battery : BitVec 8) >>> 4).setWidth 4 = p := by
  apply BitVec.eq_of_getLsbD_eq
  intro i hi
  simp only [BitVec.getLsbD_append, BitVec.getLsbD_setWidth, BitVec.getLsbD_ushiftRight, BitVec.getLsbD_extractLsb']
  rcases Nat.lt_or_ge i 4 with h | h4
  · have h3 : ¬4 + i < 3 := by omega
    have h1 : ¬4 + i - 3 < 1 := by omega
    have hsum : 4 + i - 3 - 1 = i := by omega
    simp [h, h3, h1, hsum]
  · have hlow : i - 4 < 8 := by omega
    have hsum : 4 + (i - 4) = i := by omega
    simp [Nat.not_lt.mpr h4, hlow, hsum]

theorem battery_low (p : BitVec 4) (reserved : BitVec 1) (battery : BitVec 3) :
    (p ++ reserved ++ battery : BitVec 8).setWidth 3 = battery := BitVec.setWidth_append_eq_right

theorem ofByte_flags (high : BitVec 5) (f : SensorFlags) :
    SensorFlags.ofByte (high ++ BitVec.ofBool f.fault ++ BitVec.ofBool f.fastLoss ++ BitVec.ofBool f.trigger) = f := by
  obtain ⟨trigger, fastLoss, fault⟩ := f
  simp only [SensorFlags.ofByte, BitVec.getLsbD_append]
  simp

theorem integrity_burst (t : Telegram) (reserved : BitVec 1) (high : BitVec 5) :
    integrity (t.burst reserved high) = some (.telegram t) := by
  obtain ⟨kind, id, pressureCode, temperatureCode, battery, flags⟩ := t
  have hholds : crc8Holds (Telegram.burst ⟨kind, id, pressureCode, temperatureCode, battery, flags⟩ reserved high) = true := by
    rw [Telegram.burst, crc8Holds_append, beq_iff_eq]
  have hlength : (Telegram.burst ⟨kind, id, pressureCode, temperatureCode, battery, flags⟩ reserved high).length = 10 := rfl
  have hfields : telegramOf kind (Telegram.burst ⟨kind, id, pressureCode, temperatureCode, battery, flags⟩ reserved high) =
      some ⟨kind, id, pressureCode, temperatureCode, battery, flags⟩ := by
    simp only [Telegram.burst, bytes32, List.cons_append, List.nil_append, telegramOf, read32_bytes32, pressureCode_halves,
      battery_low, ofByte_flags]
  have hread : ∀ {k : TelegramKind} {b : Byte} {rest : List Byte} {t : Telegram}, telegramKindOf b = some k →
      (b :: rest).length = 10 → crc8Holds (b :: rest) = true → telegramOf k (b :: rest) = some t →
      integrity (b :: rest) = some (.telegram t) := fun hk hl hc ht => by
    simp only [integrity, hk, ht]
    exact if_pos ⟨hl, hc⟩
  cases kind with
  | report => exact hread rfl hlength hholds hfields
  | join => exact hread rfl hlength hholds hfields

/-! ## Beacons read back (R175) -/

theorem Beacon.body_length (b : Beacon) : b.body.length = 15 + 5 * b.offers.length := by
  have hoffers : ∀ os : List OfferEntry, ((os.map (fun o => u8 o.slot :: bytes32 o.id)).flatten).length = 5 * os.length := by
    intro os
    induction os with
    | nil => rfl
    | cons o os ih =>
      rw [List.map_cons, List.flatten_cons, List.length_append, ih, List.length_cons]
      simp [bytes32]
      omega
  simp only [Beacon.body, List.length_append, hoffers]
  rfl

theorem Beacon.bytes_length (b : Beacon) : b.bytes.length = 16 + 5 * b.offers.length := by
  rw [Beacon.bytes, List.length_append, Beacon.body_length, List.length_singleton]
  omega

theorem integrity_beacon {b : Beacon} (h : b.offers.length ≤ 4) : integrity b.bytes = some (.beacon b.vehicleCode) := by
  have hholds : crc8Holds b.bytes = true := by rw [Beacon.bytes, crc8Holds_append, beq_iff_eq]
  have hcount : b.bytes[14]? = some (u8 b.offers.length) := by
    simp [Beacon.bytes, Beacon.body, bytes16, bytes32]
  have hlength : beaconLengthHolds b.bytes = true := by
    have hn : (u8 b.offers.length).toNat = b.offers.length := u8_toNat (by omega)
    rw [beaconLengthHolds, hcount]
    simp only [hn, Beacon.bytes_length, beq_self_eq_true, Bool.and_true]
    exact decide_eq_true h
  obtain ⟨rest, hbytes⟩ : ∃ rest, b.bytes = 0x5B#8 :: (b.vehicleCode >>> 8).setWidth 8 :: b.vehicleCode.setWidth 8 :: rest :=
    ⟨_, rfl⟩
  have hread : integrity (0x5B#8 :: (b.vehicleCode >>> 8).setWidth 8 :: b.vehicleCode.setWidth 8 :: rest) =
      some (.beacon (read16 ((b.vehicleCode >>> 8).setWidth 8) (b.vehicleCode.setWidth 8))) := by
    rw [hbytes] at hlength hholds
    exact if_pos ⟨rfl, hlength, hholds⟩
  rw [hbytes, hread, read16_bytes16]

/-- Byte 5 of a beacon as a number (R175). -/
theorem byte5_toNat (value linkMode : BitVec 2) (present joinOpen : Bool) :
    (0#2 ++ value ++ BitVec.ofBool present ++ BitVec.ofBool joinOpen ++ linkMode : BitVec 8) =
      BitVec.ofNat 8 (linkMode.toNat + (if joinOpen then 4 else 0) + (if present then 8 + 16 * value.toNat else 16 * value.toNat)) := by
  revert value linkMode present joinOpen
  decide

/-- Settles O30: the fields of a telegram bit by bit, the layout of a beacon byte by byte. -/
theorem telegramsAndBeaconsReadBack : Obligations.TelegramsAndBeaconsReadBack := by
  unfold Obligations.TelegramsAndBeaconsReadBack
  refine ⟨integrity_burst, fun b hb => ⟨integrity_beacon hb, b.bytes_length⟩, fun b _ hm => ?bytes, rfl, fun bytes x => ?check⟩
  case check => rw [← crc8Step_eq]; exact crc8_append bytes x
  case bytes =>
    intro two four linkMode value byte5 body
    have h5 : beaconByte5 b = byte5 := by
      obtain ⟨vehicleCode, frameLow, mode, assignedMap, ackMap, joinOpen, downlink, offers⟩ := b
      have hmode : linkModeBits mode = linkMode.toNat := by cases mode <;> rfl
      refine Eq.trans ?_ (byte5_toNat value linkMode downlink.isSome joinOpen).symm
      rw [← hmode]
      cases downlink with
      | none => rfl
      | some v => cases v <;> rfl
    have hbody : b.body = body := by
      rw [Beacon.body, h5]
      rfl
    rw [Beacon.bytes, hbody]

end Sys2Proof.Machine

/-! PROOF. Arrivals: the checks, the acceptance, and INJECT (R29 to R38, R60, R67). -/

namespace Sys2Proof.Machine

/-! ## The checks 3 to 6 (R32 to R35) -/

theorem PosState.hasId_eq_false_iff (x : PosState) : x.hasId = false ↔ x ∈ [PosState.absent, .vacant, .learning] := by
  cases x <;> decide

theorem State.joinOpen_eq_false_iff (s : State) : s.joinOpen = false ↔ ∀ b, s.seq.beacon = some b → b.joinOpen = false := by
  unfold State.joinOpen
  cases s.seq.beacon <;> simp

theorem State.joinOpen_eq_true_iff (s : State) : s.joinOpen = true ↔ ∃ b, s.seq.beacon = some b ∧ b.joinOpen = true := by
  unfold State.joinOpen
  cases s.seq.beacon <;> simp

section
variable {s : State} {t : Telegram} {slot : Nat}

/-- The verdict on a REPORT, check by check (R32 to R35). -/
theorem State.judgeArrival_report (h : t.kind = .report) : s.judgeArrival t slot =
    if slot = 0 ∨ 32 < slot then .slotKind
    else if (s.pos (slot - 1)).state ∈ [PosState.absent, .vacant, .learning] then .notAssigned
    else if (s.pos (slot - 1)).sensorId ≠ some t.id then .slotConflict
    else if s.link.wheelMarks.getLsbD (slot - 1) = true then .duplicate
    else if 6 ≤ s.queue.length then .queueFull
    else .accepted := by
  have hsuits : (!s.slotSuits t slot) = true ↔ slot = 0 ∨ 32 < slot := by
    simp only [State.slotSuits, h, Bool.not_eq_true', decide_eq_false_iff_not]
    omega
  have hassigned : (t.kind == .report && !(s.pos (slot - 1)).state.hasId) = true ↔
      (s.pos (slot - 1)).state ∈ [PosState.absent, .vacant, .learning] := by
    rw [h, ← PosState.hasId_eq_false_iff]
    simp
  have hid : (t.kind == .report && (s.pos (slot - 1)).sensorId != some t.id) = true ↔
      (s.pos (slot - 1)).sensorId ≠ some t.id := by
    rw [h]
    simp
  have hdup : s.duplicate t slot = true ↔ s.link.wheelMarks.getLsbD (slot - 1) = true := by
    simp only [State.duplicate, h, flagIn]
  simp only [State.judgeArrival, hsuits, hassigned, hid, hdup]
  rfl

/-- The verdict on a JOIN, check by check (R32, R34, R35). -/
theorem State.judgeArrival_join (h : t.kind = .join) : s.judgeArrival t slot =
    if slot < 33 ∨ 36 < slot ∨ s.joinOpen = false then .slotKind
    else if t.id ∈ s.link.joinMarks.get slot ∨ 4 ≤ (s.link.joinMarks.get slot).length then .duplicate
    else if 6 ≤ s.queue.length then .queueFull
    else .accepted := by
  have hsuits : (!s.slotSuits t slot) = true ↔ slot < 33 ∨ 36 < slot ∨ s.joinOpen = false := by
    simp only [State.slotSuits, h, Bool.not_eq_true', Bool.and_eq_false_iff, decide_eq_false_iff_not]
    cases s.joinOpen with
    | true =>
      simp only [Bool.true_eq_false, or_false]
      omega
    | false => simp
  have hreport : (t.kind == .report) = false := by rw [h]; rfl
  have hdup : s.duplicate t slot = true ↔ t.id ∈ s.link.joinMarks.get slot ∨ 4 ≤ (s.link.joinMarks.get slot).length := by
    simp only [State.duplicate, h, Bool.or_eq_true, List.elem_eq_mem, decide_eq_true_eq]
    rfl
  simp only [State.judgeArrival, hsuits, hreport, Bool.false_and, Bool.false_eq_true, if_false, hdup]
  rfl

/-- What becomes of an arrival, by its verdict (R32 to R36). -/
theorem State.arrive_slotKind {ch : Channel} (h : s.judgeArrival t slot = .slotKind) : s.arrive t slot ch = s := by
  rw [State.arrive, h]

theorem State.arrive_notAssigned {ch : Channel} (h : s.judgeArrival t slot = .notAssigned) : s.arrive t slot ch = s := by
  rw [State.arrive, h]

theorem State.arrive_duplicate {ch : Channel} (h : s.judgeArrival t slot = .duplicate) : s.arrive t slot ch = s := by
  rw [State.arrive, h]

theorem State.arrive_slotConflict {ch : Channel} (h : s.judgeArrival t slot = .slotConflict) :
    s.arrive t slot ch = s.raise .slotConflict := by
  rw [State.arrive, h]

theorem State.arrive_queueFull {ch : Channel} (h : s.judgeArrival t slot = .queueFull) :
    s.arrive t slot ch = s.raise .rxOverrun := by
  rw [State.arrive, h]

theorem State.arrive_accepted {ch : Channel} (h : s.judgeArrival t slot = .accepted) :
    s.arrive t slot ch = s.accept t slot ch := by
  rw [State.arrive, h]

end

theorem State.hears_of_running {s : State} (ht : s.seq.timer ≠ .stopped) (hm : s.modes.mode = .run ∨ s.modes.mode = .park) :
    s.hears = true := by
  unfold State.hears
  simp [ht, hm]

theorem State.hears_of_deaf {s : State} (h : s.seq.timer = .stopped ∨ s.modes.mode = .config ∨ s.modes.mode = .test) :
    s.hears = false := by
  unfold State.hears
  rcases h with h | h | h <;> simp [h]

/-- Settles O32: the verdict of the first check that fails, and what it does. -/
theorem arrivalsDiscardedByCheck : Obligations.ArrivalsDiscardedByCheck := by
  unfold Obligations.ArrivalsDiscardedByCheck
  intro s ch slot burst
  refine ⟨fun h => exec_radioArrival_deaf (State.hears_of_deaf h), exec_radioArrival_none, fun _ => exec_radioArrival_beacon,
    fun t hb htimer hmode => ?_⟩
  have hgo : exec (.radioArrival ch slot burst) s = .next (s.arrive t slot ch) :=
    exec_radioArrival_telegram (State.hears_of_running htimer hmode) hb
  refine ⟨fun hk => ?report, fun hk => ?join⟩
  case report =>
    intro r
    have hverdict := State.judgeArrival_report (s := s) (slot := slot) hk
    have hslot : 1 ≤ slot → slot ≤ 32 → ¬(slot = 0 ∨ 32 < slot) := by omega
    refine ⟨fun h => ?_, fun h1 h32 h => ?_, fun h1 h32 hst h => ?_, fun h1 h32 hst hid => ⟨fun h => ?_, fun h hfull => ?_⟩⟩
    · rw [hgo, State.arrive_slotKind (by rw [hverdict, if_pos h])]
    · rw [hgo, State.arrive_notAssigned (by rw [hverdict, if_neg (hslot h1 h32), if_pos h])]
    · rw [hgo, State.arrive_slotConflict (by rw [hverdict, if_neg (hslot h1 h32), if_neg hst, if_pos h])]
    · rw [hgo, State.arrive_duplicate (by rw [hverdict, if_neg (hslot h1 h32), if_neg hst, if_neg (not_not.mpr hid), if_pos h])]
    · rw [hgo, State.arrive_queueFull (by
        rw [hverdict, if_neg (hslot h1 h32), if_neg hst, if_neg (not_not.mpr hid), if_neg (by simp [h]), if_pos hfull])]
  case join =>
    have hverdict := State.judgeArrival_join (s := s) (slot := slot) hk
    refine ⟨fun h => ?_, fun h33 h36 b hb hopen => ?_⟩
    · rw [hgo, State.arrive_slotKind (by rw [hverdict, if_pos (by rwa [s.joinOpen_eq_false_iff])])]
    · have hsuits : ¬(slot < 33 ∨ 36 < slot ∨ s.joinOpen = false) := by
        have htrue := s.joinOpen_eq_true_iff.mpr ⟨b, hb, hopen⟩
        rw [htrue]
        simp only [Bool.true_eq_false, or_false]
        omega
      refine ⟨fun h => ?_, fun hnew hroom hfull => ?_⟩
      · rw [hgo, State.arrive_duplicate (by rw [hverdict, if_neg hsuits, if_pos h])]
      · have hmarks : ¬(t.id ∈ s.link.joinMarks.get slot ∨ 4 ≤ (s.link.joinMarks.get slot).length) :=
          not_or.mpr ⟨hnew, Nat.not_le.mpr hroom⟩
        rw [hgo, State.arrive_queueFull (by rw [hverdict, if_neg hsuits, if_neg hmarks, if_pos hfull])]

/-! ## The idle engine and the busy one (R67, R68) -/

theorem State.runEngine_busy {s : State} {w : InFlight} (h : s.engine = .busy w) : s.runEngine = s := by
  rw [State.runEngine, h]

theorem State.runEngine_idle {s : State} (h : s.engine = .idle) : s.runEngine = s.takeFrom s.queue := by
  rw [State.runEngine, h]

theorem State.withEngine_congr {s t : State} (h : s = t) (q : List QueueEntry) (e : Engine) :
    { s with queue := q, engine := e } = { t with queue := q, engine := e } := by
  rw [h]

theorem State.takeFrom_starts {s : State} {e : QueueEntry} (h : s.starts e) (rest : List QueueEntry) :
    s.takeFrom (e :: rest) = State.start { s with queue := rest } e := if_pos h

theorem State.takeFrom_passes {s : State} {e : QueueEntry} (h : ¬s.starts e) (rest : List QueueEntry) :
    s.takeFrom (e :: rest) = s.takeFrom rest := if_neg h

/-! ## Acceptance (R36) -/

theorem Position.heard_eq (r : Position) (f : FrameNo) (ch : Channel) : r.heard f ch = { r with
    state := .active
    stateEntry := if r.state = .active then r.stateEntry else f
    offer := if r.state = .offered then none else r.offer
    wheel := { r.wheel with lastHeard := some f, lastChannel := some ch
                            history := if r.state = .offered then [] else r.wheel.history } } := by
  unfold Position.heard
  obtain ⟨state, sensorId, stateEntry, wheel, offer, learn, alarms⟩ := r
  cases state <;> rfl

section
variable {s : State} {t : Telegram} {slot : Nat} {ch : Channel}

theorem State.tellArrival_unoffered {p : Nat} (h : (s.pos p).state ≠ .offered) :
    s.tellArrival p ch = s.setPos p ((s.pos p).heard s.seq.frameNumber ch) := if_neg h

theorem State.tellArrival_offered {p : Nat} (h : (s.pos p).state = .offered) : s.tellArrival p ch =
    (s.setPos p ((s.pos p).heard s.seq.frameNumber ch)).queueNotice (.bind p (s.pos p).sensorId .bound) 3 := if_pos h

/-- What the notice of a confirmed offer leaves alone (R60). -/
theorem State.tellArrival_keeps (s : State) (p : Nat) (ch : Channel) : (s.tellArrival p ch).store.reply = s.store.reply ∧
    (s.tellArrival p ch).store.readings = s.store.readings ∧ (s.tellArrival p ch).conds.mask = s.conds.mask := by
  by_cases h : (s.pos p).state = .offered
  · rw [State.tellArrival_offered h, State.queueNotice_store, State.queueNotice_mask, NoticeStore.take_reply,
      NoticeStore.take_readings]
    exact ⟨rfl, rfl, rfl⟩
  · rw [State.tellArrival_unoffered h]
    exact ⟨rfl, rfl, rfl⟩

/-- The state an acceptance leaves to the engine (R36). -/
def State.queued (s : State) (t : Telegram) (slot : Nat) (ch : Channel) : State :=
  { s with queue := s.queue ++ [⟨t, slot, ch, s.seq.frameNumber⟩], link := s.link.mark t slot }

theorem State.accept_report (h : t.kind = .report) :
    s.accept t slot ch = ((s.queued t slot ch).tellArrival (slot - 1) ch).runEngine := by
  unfold State.accept
  dsimp only
  rw [h]
  rfl

theorem State.accept_join (h : t.kind = .join) : s.accept t slot ch = (s.queued t slot ch).runEngine := by
  unfold State.accept
  dsimp only
  rw [h]
  rfl

end

theorem JoinMarks.get_add {slot : Nat} (h33 : 33 ≤ slot) (h36 : slot ≤ 36) (j : JoinMarks) (id : SensorId) (n : Nat) :
    (j.add slot id).get n = if n = slot then j.get n ++ [id] else j.get n := by
  have hslot : slot = 33 ∨ slot = 34 ∨ slot = 35 ∨ slot = 36 := by omega
  by_cases hn : n = slot
  · subst hn
    rw [if_pos rfl]
    rcases hslot with rfl | rfl | rfl | rfl <;> rfl
  · rw [if_neg hn]
    unfold JoinMarks.get JoinMarks.add
    rcases hslot with rfl | rfl | rfl | rfl <;> simp [hn]

section
variable {s : State} {t : Telegram} {slot : Nat} {ch : Channel}

/-- An accepted REPORT: what the queue, the marks, the table, the store and the conditions are before the engine is asked (R36). -/
theorem State.told_eq (s : State) (t : Telegram) (slot : Nat) (ch : Channel) :
    (s.queued t slot ch).tellArrival (slot - 1) ch = { s with
      queue := s.queue ++ [⟨t, slot, ch, s.seq.frameNumber⟩], link := s.link.mark t slot
      positions := s.positions.set (slot - 1) ((s.pos (slot - 1)).heard s.seq.frameNumber ch)
      store := ((s.queued t slot ch).tellArrival (slot - 1) ch).store
      conds := ((s.queued t slot ch).tellArrival (slot - 1) ch).conds } :=
  State.tellArrival_eq _ _ _

/-- An accepted REPORT's own entry holds when the engine is asked: its position is ACTIVE with the ID (R11, R68). -/
theorem State.told_starts (h : (s.pos (slot - 1)).state ≠ .absent) (hid : (s.pos (slot - 1)).sensorId = some t.id) :
    State.starts ((s.queued t slot ch).tellArrival (slot - 1) ch) ⟨t, slot, ch, s.seq.frameNumber⟩ := by
  have hpos : ((s.queued t slot ch).tellArrival (slot - 1) ch).pos (slot - 1) = (s.pos (slot - 1)).heard s.seq.frameNumber ch := by
    rw [State.told_eq]
    exact (State.setPos_pos s _ _ _).trans (if_pos ⟨rfl, State.lt_of_state_ne_absent h⟩)
  refine .inr ?_
  show (((s.queued t slot ch).tellArrival (slot - 1) ch).pos (slot - 1)).holds PosState.bound t.id = true
  rw [hpos, Position.heard_eq]
  simp [Position.holds, hid, PosState.bound]

end

/-- Settles O33: the two kinds one after the other; the engine is asked last. -/
theorem arrivalsAcceptedIntoTheQueue : Obligations.ArrivalsAcceptedIntoTheQueue := by
  unfold Obligations.ArrivalsAcceptedIntoTheQueue
  intro s ch slot burst t hb htimer hmode hroom entry
  have hgo : exec (.radioArrival ch slot burst) s = .next (s.arrive t slot ch) :=
    exec_radioArrival_telegram (State.hears_of_running htimer hmode) hb
  have hqueue : ¬6 ≤ s.queue.length := Nat.not_le.mpr hroom
  refine ⟨fun hk h1 h32 hst hid hmark => ?report, fun hk h33 h36 hopen hnew hmarks => ?join⟩
  case report =>
    intro old record
    have hverdict : s.judgeArrival t slot = .accepted := by
      rw [State.judgeArrival_report hk, if_neg (by omega), if_neg hst, if_neg (not_not.mpr hid), if_neg (by simp [hmark]),
        if_neg hqueue]
    have habsent : (s.pos (slot - 1)).state ≠ .absent := fun h => hst (by simp [h])
    have hstarts : State.starts _ entry := State.told_starts (ch := ch) habsent hid
    have htold := s.told_eq t slot ch
    have hmarked : s.link.mark t slot = { s.link with
        heardMap := s.link.heardMap ||| (1#32 <<< (slot - 1)), wheelMarks := s.link.wheelMarks ||| (1#32 <<< (slot - 1)) } := by
      unfold LinkReceiver.mark
      rw [hk]
      rfl
    have hkeeps := State.tellArrival_keeps (s.queued t slot ch) (slot - 1) ch
    have hstill := State.tellArrival_unoffered (s := s.queued t slot ch) (p := slot - 1) (ch := ch)
    have hbound := State.tellArrival_offered (s := s.queued t slot ch) (p := slot - 1) (ch := ch)
    have haccept : s.arrive t slot ch = ((s.queued t slot ch).tellArrival (slot - 1) ch).runEngine :=
      (State.arrive_accepted hverdict).trans (State.accept_report hk)
    generalize (s.queued t slot ch).tellArrival (slot - 1) ch = a at hstarts htold hkeeps hstill hbound haccept
    have hrun := a.runEngine_eq
    have hstore : a.runEngine.store = a.store := by rw [hrun]
    have hconds : a.runEngine.conds = a.conds := by rw [hrun]
    refine ⟨a.runEngine, by rw [hgo, haccept], ?frame, ?_, ?_, ?_, fun h => ?unoffered, fun h hstoreRoom => ?offered,
      fun w hw => ?busy, fun hidle hempty => ?idle⟩
    case frame =>
      rw [hmarked, Position.heard_eq] at htold
      rw [hstore, hconds]
      exact hrun.trans (State.withEngine_congr htold _ _)
    · rw [hstore, hkeeps.1]
      rfl
    · rw [hstore, hkeeps.2.1]
      rfl
    · rw [hconds, hkeeps.2.2]
      rfl
    case unoffered =>
      rw [hstore, hconds, hstill h]
      exact ⟨rfl, rfl⟩
    case offered =>
      rw [hstore, hconds, hbound h, State.queueNotice_room (by exact hstoreRoom)]
      refine ⟨rfl, (NoticeStore.take_shown_room (by rfl) (by exact hstoreRoom) 3).trans ?_⟩
      exact congrArg (fun i => s.store.shown ++ [(Notice.bind (slot - 1) i .bound, 3)]) hid
    case busy =>
      have hae : a.engine = .busy w := by rw [htold]; exact hw
      rw [State.runEngine_busy hae]
      exact ⟨by rw [htold], hae⟩
    case idle =>
      have hae : a.engine = .idle := by rw [htold]; exact hidle
      have haq : a.queue = [entry] := by rw [htold]; simp [hempty, entry]
      rw [State.runEngine_idle hae, haq, State.takeFrom_starts hstarts]
      refine ⟨rfl, ?_⟩
      simp only [State.start]
      rw [if_pos (by exact hk)]
      rfl
  case join =>
    have hverdict : s.judgeArrival t slot = .accepted := by
      have htrue := s.joinOpen_eq_true_iff.mpr hopen
      rw [State.judgeArrival_join hk, if_neg, if_neg (not_or.mpr ⟨hnew, Nat.not_le.mpr hmarks⟩), if_neg hqueue]
      rw [htrue]
      simp only [Bool.true_eq_false, or_false]
      omega
    have hmarked : s.link.mark t slot = { s.link with joinMarks := s.link.joinMarks.add slot t.id } := by
      unfold LinkReceiver.mark
      rw [hk]
    have hrun := (s.queued t slot ch).runEngine_eq
    have hlink : (s.queued t slot ch).runEngine.link = s.link.mark t slot := by rw [hrun]; rfl
    refine ⟨(s.queued t slot ch).runEngine, by rw [hgo, State.arrive_accepted hverdict, State.accept_join hk], ?frame, fun n => ?_,
      fun w hw => ?busy, fun hidle hempty => ?idle⟩
    case frame =>
      rw [hlink, hmarked]
      refine hrun.trans ?_
      simp only [State.queued, hmarked]
    · rw [hlink, hmarked]
      exact JoinMarks.get_add h33 h36 _ _ _
    case busy =>
      rw [State.runEngine_busy (s := s.queued t slot ch) hw]
      exact ⟨rfl, hw⟩
    case idle =>
      have hq : (s.queued t slot ch).queue = [entry] := by simp [State.queued, hempty, entry]
      rw [State.runEngine_idle (s := s.queued t slot ch) hidle, hq, State.takeFrom_starts (.inl hk)]
      refine ⟨rfl, ?_⟩
      simp only [State.start]
      rw [if_neg (by rw [hk]; decide)]

end Sys2Proof.Machine

/-! PROOF. INJECT does what the same telegram does by radio (R38). -/

namespace Sys2Proof.Machine

/-! ## A state with another store of the same entries, another port and another lamp -/

/-- The state with another store, port and lamp line. -/
def State.beside (s : State) (st : NoticeStore) (port : ControlPort) (lamp : Bool) : State :=
  { s with store := st, port := port, lamp := lamp }

/-- What a store takes in follows from its entries (R141, R142). -/
theorem NoticeStore.take_congr {st u : NoticeStore} (h : u.entries = st.entries) (n : Notice) (p : Nat) :
    (u.take n p).2 = (st.take n p).2 ∧ (u.take n p).1.shown = (st.take n p).1.shown := by
  unfold NoticeStore.take
  rw [h]
  dsimp only
  split_ifs <;> simp

/-- Queuing a notice, with the one condition it can set written out (R130, R142). -/
theorem State.queueNotice_eq_lost (s : State) (n : Notice) (p : Nat) : s.queueNotice n p = { s with
    store := (s.store.take n p).1
    conds := { s.conds with set :=
      if (s.store.take n p).2 && !condIn .noticeLost s.conds.set then condAdd .noticeLost s.conds.set else s.conds.set } } := by
  unfold State.queueNotice
  cases hlost : (s.store.take n p).2 with
  | false => rfl
  | true =>
    rw [if_pos rfl]
    cases hc : condIn .noticeLost s.conds.set with
    | true => exact State.raiseNoticeLost_set hc
    | false => exact State.raiseNoticeLost_full (s := { s with store := (s.store.take n p).1 }) (NoticeStore.take_lost_full hlost) hc

section
variable {s : State} {st : NoticeStore} (h : st.entries = s.store.entries) (port : ControlPort) (lamp : Bool)
include h

theorem State.queueNotice_beside (n : Notice) (p : Nat) : ∃ u : NoticeStore,
    (s.beside st port lamp).queueNotice n p = (s.queueNotice n p).beside u port lamp ∧ u.shown = (s.queueNotice n p).store.shown := by
  obtain ⟨hlost, hshown⟩ := NoticeStore.take_congr h n p
  refine ⟨(st.take n p).1, ?_, by rw [State.queueNotice_store, hshown]⟩
  rw [State.queueNotice_eq_lost, State.queueNotice_eq_lost, State.beside, State.beside]
  dsimp only
  rw [hlost]

theorem State.raise_beside (c : Condition) : ∃ u : NoticeStore,
    (s.beside st port lamp).raise c = (s.raise c).beside u port lamp ∧ u.shown = (s.raise c).store.shown := by
  have hshown : st.shown = s.store.shown := by rw [NoticeStore.shown, h, NoticeStore.shown]
  cases hc : condIn c s.conds.set with
  | true => exact ⟨st, by rw [State.raise_set hc, State.raise_set (by exact hc)], by rw [State.raise_set hc, hshown]⟩
  | false =>
    cases hm : condIn c s.conds.mask with
    | true =>
      refine ⟨st, ?_, by rw [State.raise_masked hc hm, hshown]⟩
      rw [State.raise_masked hc hm, State.raise_masked (by exact hc) (by exact hm)]
      rfl
    | false =>
      rw [State.raise_unmasked hc hm, State.raise_unmasked (s := s.beside st port lamp) hc hm]
      exact State.queueNotice_beside (s := { s with conds := { s.conds with set := condAdd c s.conds.set } }) h port lamp _ _

end

theorem State.takeFrom_beside (s : State) (st : NoticeStore) (port : ControlPort) (lamp : Bool) (es : List QueueEntry) :
    (s.beside st port lamp).takeFrom es = (s.takeFrom es).beside st port lamp := by
  induction es with
  | nil => rfl
  | cons e es ih =>
    by_cases he : s.starts e
    · rw [State.takeFrom_starts he, State.takeFrom_starts (s := s.beside st port lamp) he]
      rfl
    · rw [State.takeFrom_passes he, State.takeFrom_passes (s := s.beside st port lamp) he, ih]

theorem State.runEngine_beside (s : State) (st : NoticeStore) (port : ControlPort) (lamp : Bool) :
    (s.beside st port lamp).runEngine = s.runEngine.beside st port lamp := by
  cases hw : s.engine with
  | idle => rw [State.runEngine_idle hw, State.runEngine_idle (by exact hw)]; exact s.takeFrom_beside _ _ _ _
  | busy w => rw [State.runEngine_busy hw, State.runEngine_busy (by exact hw)]

section
variable {s : State} {st : NoticeStore} (h : st.entries = s.store.entries) (port : ControlPort) (lamp : Bool)
include h

theorem State.tellArrival_beside (p : Nat) (ch : Channel) : ∃ u : NoticeStore,
    (s.beside st port lamp).tellArrival p ch = (s.tellArrival p ch).beside u port lamp ∧
      u.shown = (s.tellArrival p ch).store.shown := by
  by_cases ho : (s.pos p).state = .offered
  · rw [State.tellArrival_offered ho, State.tellArrival_offered (s := s.beside st port lamp) ho]
    exact State.queueNotice_beside (s := s.setPos p ((s.pos p).heard s.seq.frameNumber ch)) h port lamp _ _
  · rw [State.tellArrival_unoffered ho, State.tellArrival_unoffered (s := s.beside st port lamp) ho]
    exact ⟨st, rfl, by rw [NoticeStore.shown, h]; rfl⟩

/-- An arrival's effects follow from the rest of the state and the notices, not from the port, the reply or the lamp line. -/
theorem State.arrive_beside (t : Telegram) (slot : Nat) (ch : Channel) : ∃ u : NoticeStore,
    (s.beside st port lamp).arrive t slot ch = (s.arrive t slot ch).beside u port lamp ∧
      u.shown = (s.arrive t slot ch).store.shown := by
  have hshown : st.shown = s.store.shown := by rw [NoticeStore.shown, h, NoticeStore.shown]
  have hjudge : (s.beside st port lamp).judgeArrival t slot = s.judgeArrival t slot := rfl
  cases hv : s.judgeArrival t slot with
  | slotKind =>
    rw [State.arrive_slotKind hv, State.arrive_slotKind (hjudge.trans hv)]
    exact ⟨st, rfl, hshown⟩
  | notAssigned =>
    rw [State.arrive_notAssigned hv, State.arrive_notAssigned (hjudge.trans hv)]
    exact ⟨st, rfl, hshown⟩
  | duplicate =>
    rw [State.arrive_duplicate hv, State.arrive_duplicate (hjudge.trans hv)]
    exact ⟨st, rfl, hshown⟩
  | slotConflict =>
    rw [State.arrive_slotConflict hv, State.arrive_slotConflict (hjudge.trans hv)]
    exact State.raise_beside h port lamp _
  | queueFull =>
    rw [State.arrive_queueFull hv, State.arrive_queueFull (hjudge.trans hv)]
    exact State.raise_beside h port lamp _
  | accepted =>
    rw [State.arrive_accepted hv, State.arrive_accepted (hjudge.trans hv)]
    cases hk : t.kind with
    | report =>
      obtain ⟨u, htell, hu⟩ := State.tellArrival_beside (s := s.queued t slot ch) h port lamp (slot - 1) ch
      rw [State.accept_report hk, State.accept_report hk]
      refine ⟨u, ?_, by rw [hu, State.runEngine_eq]⟩
      exact (congrArg State.runEngine htell).trans (State.runEngine_beside _ _ _ _)
    | join =>
      rw [State.accept_join hk, State.accept_join hk]
      exact ⟨st, State.runEngine_beside (s.queued t slot ch) st port lamp, by rw [hshown, State.runEngine_eq]; rfl⟩

end

/-- What an arrival can move (R32 to R36). -/
theorem State.arrive_eq (s : State) (t : Telegram) (slot : Nat) (ch : Channel) : s.arrive t slot ch = { s with
    link := (s.arrive t slot ch).link, queue := (s.arrive t slot ch).queue, engine := (s.arrive t slot ch).engine
    positions := (s.arrive t slot ch).positions, conds := (s.arrive t slot ch).conds, store := (s.arrive t slot ch).store } := by
  cases hv : s.judgeArrival t slot with
  | slotKind => rw [State.arrive_slotKind hv]
  | notAssigned => rw [State.arrive_notAssigned hv]
  | duplicate => rw [State.arrive_duplicate hv]
  | slotConflict => rw [State.arrive_slotConflict hv, State.raise_eq]
  | queueFull => rw [State.arrive_queueFull hv, State.raise_eq]
  | accepted => rw [State.arrive_accepted hv, State.accept_eq]

theorem State.arrive_readings (s : State) (t : Telegram) (slot : Nat) (ch : Channel) :
    (s.arrive t slot ch).store.readings = s.store.readings := by
  cases hv : s.judgeArrival t slot with
  | slotKind => rw [State.arrive_slotKind hv]
  | notAssigned => rw [State.arrive_notAssigned hv]
  | duplicate => rw [State.arrive_duplicate hv]
  | slotConflict => rw [State.arrive_slotConflict hv, State.raise_readings]
  | queueFull => rw [State.arrive_queueFull hv, State.raise_readings]
  | accepted =>
    rw [State.arrive_accepted hv]
    cases hk : t.kind with
    | report =>
      rw [State.accept_report hk, State.runEngine_eq]
      exact (State.tellArrival_keeps (s.queued t slot ch) _ _).2.1
    | join =>
      rw [State.accept_join hk, State.runEngine_eq]
      rfl

/-! ## INJECT's payload (R38, R176) -/

theorem channelOf_code (ch : Channel) : channelOf (channelCode ch) = some ch := by cases ch <;> rfl

theorem channelOf_eq_none {b : Byte} (h : b ∉ [1#8, 2#8]) : channelOf b = none := by
  simp only [List.mem_cons, List.not_mem_nil, or_false, not_or] at h
  simp [channelOf, channelCode, Ne.symm h.1, Ne.symm h.2]

theorem telegramKindOf_eq_none {b : Byte} (h : b ∉ [0x3C#8, 0x3D#8]) : telegramKindOf b = none := by
  simp only [List.mem_cons, List.not_mem_nil, or_false, not_or] at h
  rw [telegramKindOf, if_neg h.1, if_neg h.2]

section
variable {c slot k i3 i2 i1 i0 p1 p0 t b f : Byte}

theorem injectOf_none (h : c ∉ [1#8, 2#8] ∨ slot = 0#8 ∨ 36 < slot.toNat ∨ k ∉ [0x3C#8, 0x3D#8] ∨ 7 < b.toNat) :
    injectOf [c, slot, k, i3, i2, i1, i0, p1, p0, t, b, f] = none := by
  unfold injectOf
  dsimp only
  split
  · rename_i hc hk
    refine if_neg fun ⟨h1, h36, h7⟩ => ?_
    rcases h with h | h | h | h | h
    · rw [channelOf_eq_none h] at hc
      cases hc
    · rw [h] at h1
      exact absurd h1 (by decide)
    · omega
    · rw [telegramKindOf_eq_none h] at hk
      cases hk
    · omega
  · rfl

theorem injectOf_some {ch : Channel} {kind : TelegramKind} (hc : c = channelCode ch) (hk : telegramKindOf k = some kind)
    (h1 : 1 ≤ slot.toNat) (h36 : slot.toNat ≤ 36) (h7 : b.toNat ≤ 7) :
    injectOf [c, slot, k, i3, i2, i1, i0, p1, p0, t, b, f] = some (ch, slot.toNat,
      ⟨kind, i3 ++ i2 ++ i1 ++ i0, (p1 ++ p0).setWidth 12, t, b.setWidth 3, ⟨f.getLsbD 0, f.getLsbD 1, f.getLsbD 2⟩⟩) := by
  simp only [injectOf, hc, channelOf_code, hk]
  exact if_pos ⟨h1, h36, h7⟩

end

/-- The answer to an INJECT tells the first of the checks 3 to 6 that the telegram fails (R38). -/
theorem arrivalAnswer_judged (s : State) (t : Telegram) {slot : Nat} (h1 : 1 ≤ slot) (h36 : slot ≤ 36) (data : List Byte) :
    arrivalAnswer (s.judgeArrival t slot) data =
      if (t.kind = .report ∧ 32 < slot) ∨ (t.kind = .join ∧ (slot < 33 ∨ s.seq.beacon.map Beacon.joinOpen ≠ some true)) then
        ⟨.refused, some .slotKind, data⟩
      else if t.kind = .report ∧ (s.pos (slot - 1)).state ∈ [PosState.absent, .vacant, .learning] then
        ⟨.refused, some .notAssigned, data⟩
      else if t.kind = .report ∧ (s.pos (slot - 1)).sensorId ≠ some t.id then ⟨.refused, some .slotConflict, data⟩
      else if (t.kind = .report ∧ s.link.wheelMarks.getLsbD (slot - 1) = true) ∨
          (t.kind = .join ∧ (t.id ∈ s.link.joinMarks.get slot ∨ 4 ≤ (s.link.joinMarks.get slot).length)) then
        ⟨.refused, some .duplicate, data⟩
      else if 6 ≤ s.queue.length then ⟨.refused, some .queueFull, data⟩
      else ⟨.done, none, data⟩ := by
  cases hk : t.kind with
  | report =>
    have hslot : (slot = 0 ∨ 32 < slot) ↔ 32 < slot := by omega
    rw [State.judgeArrival_report hk]
    simp only [hslot, true_and, reduceCtorEq, false_and, or_false]
    split_ifs <;> rfl
  | join =>
    have hopen : s.joinOpen = false ↔ s.seq.beacon.map Beacon.joinOpen ≠ some true := by
      unfold State.joinOpen
      cases s.seq.beacon <;> simp
    have hslot : (slot < 33 ∨ 36 < slot ∨ s.joinOpen = false) ↔ (slot < 33 ∨ s.seq.beacon.map Beacon.joinOpen ≠ some true) := by
      have hlast : ¬36 < slot := Nat.not_lt.mpr h36
      rw [hopen]
      simp only [hlast, false_or]
    rw [State.judgeArrival_join hk]
    simp only [hslot, true_and, reduceCtorEq, false_and, false_or, if_false]
    split_ifs <;> rfl

/-- Settles O34: INJECT works on the state the good frame left, beside which the arrival by radio has the same effects. -/
theorem injectActsAsAnArrival : Obligations.InjectActsAsAnArrival := by
  unfold Obligations.InjectActsAsAnArrival
  refine ⟨fun s ch slot burst t hb htimer hmode => exec_radioArrival_telegram (State.hears_of_running htimer hmode) hb,
    fun s c slot k i3 i2 i1 i0 p1 p0 t b f hready hmode => ?_⟩
  have hin : Command.acceptedIn .inject s.modes.mode = true := by rw [hmode]; rfl
  refine ⟨fun hbad => ?refused, fun ch kind hc hk h1 h36 h7 => ?taken⟩
  case refused =>
    refine exec_instr_onlyAnswers (c := .inject) hready rfl hin ?_
    show ownInject _ _ = _
    rw [ownInject, injectOf_none hbad]
    rfl
  case taken =>
    intro tg radio data
    have hown : ownInject [c, slot, k, i3, i2, i1, i0, p1, p0, t, b, f] s.taking =
        (s.taking.arrive tg slot.toNat ch, arrivalAnswer (s.judgeArrival tg slot.toNat) data) := by
      rw [ownInject, injectOf_some hc hk h1 h36 h7]
      dsimp only
      rw [u8_toNat_self]
      rfl
    have hexec := exec_instr_effect .inject [c, slot, k, i3, i2, i1, i0, p1, p0, t, b, f] hready rfl hin hown
    obtain ⟨v, hbeside, hshown⟩ := State.arrive_beside (s := s) (st := { s.store with reply := .forming }) rfl s.framed.port
      s.framed.lamp tg slot.toNat ch
    have hreadings := State.arrive_readings s.taking tg slot.toNat ch
    have harrive : s.taking.arrive tg slot.toNat ch = radio.beside v s.framed.port s.framed.lamp := hbeside
    have hradio : radio = { s with
        link := radio.link, queue := radio.queue, engine := radio.engine, positions := radio.positions
        conds := radio.conds, store := radio.store } := s.arrive_eq tg slot.toNat ch
    rw [harrive] at hexec hreadings
    refine ⟨_, hexec, ?_, hshown, hreadings, ?_⟩
    · exact congrArg (fun u : State => u.beside (v.replied 0x50#8 (arrivalAnswer (s.judgeArrival tg slot.toNat) data)) s.framed.port
        s.framed.lamp) hradio
    · rw [arrivalAnswer_judged s tg h1 h36]
      rfl

end Sys2Proof.Machine

/-! PROOF. The engine's start, a REPORT whose binding broke, and the age-out of candidates (R49, R67 to R71). -/

namespace Sys2Proof.Machine

/-! ## The entry's binding (R68, R71) -/

theorem PosState.bound_iff (x : PosState) : x.bound = true ↔ x ∈ [PosState.assigned, .active, .missing] := by
  cases x <;> decide

theorem Position.holds_bound_iff (r : Position) (id : SensorId) :
    r.holds PosState.bound id = true ↔ r.state ∈ [PosState.assigned, .active, .missing] ∧ r.sensorId = some id := by
  rw [Position.holds, Bool.and_eq_true, PosState.bound_iff, beq_iff_eq]

theorem State.entryHolds_iff (s : State) (e : QueueEntry) : s.entryHolds e = true ↔
    (s.pos (e.slot - 1)).state ∈ [PosState.assigned, .active, .missing] ∧ (s.pos (e.slot - 1)).sensorId = some e.telegram.id :=
  Position.holds_bound_iff _ _

theorem TelegramKind.eq_report {k : TelegramKind} (h : k ≠ .join) : k = .report := by
  cases k with
  | report => rfl
  | join => exact absurd rfl h

theorem State.not_starts_iff (s : State) (e : QueueEntry) : ¬s.starts e ↔ e.telegram.kind = .report ∧
    ¬((s.pos (e.slot - 1)).state ∈ [PosState.assigned, .active, .missing] ∧ (s.pos (e.slot - 1)).sensorId = some e.telegram.id) := by
  rw [State.starts, s.entryHolds_iff, not_or]
  refine and_congr_left' ⟨TelegramKind.eq_report, fun h hj => ?_⟩
  rw [h] at hj
  cases hj

theorem exec_assessmentStart (s : State) : exec .assessmentStart s = .next s.runEngine := rfl

/-- Settles O42: `State.takeFrom_cases` on the queue of an idle engine. -/
theorem engineStartsOnTheHead : Obligations.EngineStartsOnTheHead := by
  unfold Obligations.EngineStartsOnTheHead
  refine fun s => ⟨fun w hw => ?busy, fun hidle => ?idle⟩
  case busy => rw [exec_assessmentStart, State.runEngine_busy hw]
  case idle =>
    rw [exec_assessmentStart, State.runEngine_idle hidle]
    rcases s.takeFrom_cases s.queue with ⟨heq, hnone⟩ | ⟨gone, e, rest, hq, hgone, hstarts, heq⟩
    · refine ⟨s.queue, [], (List.append_nil _).symm, fun e he => (s.not_starts_iff e).mp (hnone e he), fun _ => by rw [heq], ?_⟩
      exact fun e later h => absurd h (by simp)
    · refine ⟨gone, e :: rest, hq, fun x hx => (s.not_starts_iff x).mp (hgone x hx), fun h => absurd h (by simp),
        fun f later hf => ?_⟩
      obtain ⟨rfl, rfl⟩ := List.cons.inj hf
      refine ⟨?_, fun hjoin => ?_, fun hreport => ?_⟩
      · rw [← s.entryHolds_iff]
        exact hstarts
      · rw [heq, State.start, if_neg (by rw [hjoin]; decide)]
      · rw [heq, State.start, if_pos hreport]
        rfl

/-! ## A REPORT whose binding broke (R71) -/

theorem State.completeReport_broken {s : State} {w : InFlight} (c : Capture) (h : w.voidMark = true ∨ s.entryHolds w.entry = false) :
    s.completeReport w c = s := by
  refine if_pos ?_
  rcases h with h | h <;> simp [h]

theorem exec_reportCompletion {s : State} {w : InFlight} {c : Capture} (hw : s.engine = .busy w) (hc : w.capture = some c) :
    exec .reportCompletion s = exec .assessmentStart { s.completeReport w c with engine := .idle } := by
  show execReportCompletion s = _
  simp only [execReportCompletion, hw, hc]
  rfl

/-- Settles O43: a broken binding leaves the completion the engine alone. -/
theorem brokenReportsLeaveNoTrace : Obligations.BrokenReportsLeaveNoTrace := by
  unfold Obligations.BrokenReportsLeaveNoTrace
  intro s w c hw hc hbroken
  have hholds : w.voidMark = true ∨ s.entryHolds w.entry = false := by
    refine hbroken.imp_right fun h => Bool.eq_false_iff.mpr fun ht => ?_
    obtain ⟨hstate, hid⟩ := (s.entryHolds_iff _).mp ht
    exact h.elim (fun hs => hs hstate) (fun hi => hi hid)
  have hexec : exec .reportCompletion s = exec .assessmentStart { s with engine := .idle } := by
    rw [exec_reportCompletion hw hc, State.completeReport_broken c hholds]
  exact ⟨hexec, fun hq => hexec.trans (exec_assessmentStart_empty rfl hq)⟩

/-! ## The rows of a frame end's parts (R49, R55) -/

theorem State.usualFrameEnd_eq_true_iff (s : State) : s.usualFrameEnd = true ↔
    s.modes.mode ≠ .config ∧ s.seq.timer ≠ .stopped ∧ s.modes.pending ≠ some .config := by
  simp [State.usualFrameEnd, and_assoc]

/-- Settles O38: the age-out is made when it is the part that is due. -/
theorem candidatesAgeOut : Obligations.CandidatesAgeOut := by
  unfold Obligations.CandidatesAgeOut
  have hrow : ∀ s : State, exec .ageOut s = .next (if s.usualFrameEnd then s.joinToAgeOut else s) := fun _ => rfl
  refine fun s => ⟨fun h => ?idle, fun hm ht hp hdue => ?aged⟩
  case idle =>
    rw [hrow]
    by_cases hu : s.usualFrameEnd = true
    · obtain ⟨hm, ht, hp⟩ := s.usualFrameEnd_eq_true_iff.mp hu
      have hdue : s.joinWork ≠ .due := by simpa [hm, ht, hp] using h
      rw [if_pos hu, State.joinToAgeOut, State.joinStep, if_neg hdue]
    · rw [if_neg hu]
  case aged =>
    rw [hrow, if_pos (s.usualFrameEnd_eq_true_iff.mpr ⟨hm, ht, hp⟩), State.joinToAgeOut, State.joinStep, if_pos hdue]
    rfl

end Sys2Proof.Machine

/-! PROOF. The arithmetic of an assessment: gauges, the history window and the loss rate (R85 to R92). -/

namespace Sys2Proof.Machine

/-! ## Rounding and clamping (R88, R89) -/

theorem clampInt_eq {lo hi : Int} (h : lo ≤ hi) (n : Int) : clampInt lo hi n = max lo (min hi n) := by
  unfold clampInt
  split_ifs <;> omega

/-- Pca is the quotient of the rounded numerator: its product with the divisor brackets it (R89 step 2). -/
theorem coldAbsolute_bracket {pc tref : Nat} {t : Int} (ht : -273 < t) :
    coldAbsolute pc tref t * (t + 273) ≤ (pc : Int) * (tref + 273) + (t + 273) / 2 ∧
      (pc : Int) * (tref + 273) + (t + 273) / 2 < coldAbsolute pc tref t * (t + 273) + (t + 273) := by
  have hpos : 0 < t + 273 := by omega
  have hnum : 0 ≤ (pc : Int) * (tref + 273) + (t + 273) / 2 :=
    Int.add_nonneg (Int.mul_nonneg (by omega) (by omega)) (by omega)
  rw [coldAbsolute, Int.tdiv_eq_ediv_of_nonneg hnum]
  refine ⟨Int.ediv_mul_le _ hpos.ne', ?_⟩
  have hlt := Int.lt_ediv_add_one_mul_self ((pc : Int) * (tref + 273) + (t + 273) / 2) hpos
  rwa [Int.add_mul, Int.one_mul] at hlt

theorem coldAbsolute_nonneg {pc tref : Nat} {t : Int} (ht : -273 < t) : 0 ≤ coldAbsolute pc tref t := by
  have hnum : 0 ≤ (pc : Int) * (tref + 273) + (t + 273) / 2 :=
    Int.add_nonneg (Int.mul_nonneg (by omega) (by omega)) (by omega)
  exact Int.tdiv_nonneg hnum (by omega)

theorem coldAbsolute_le {pc tref : Nat} {t : Int} (hpc : pc ≤ 4094) (htref : tref ≤ 40) (ht : -50 ≤ t) :
    coldAbsolute pc tref t ≤ 5747 := by
  by_contra hlt
  obtain ⟨hle, -⟩ := coldAbsolute_bracket (pc := pc) (tref := tref) (t := t) (by omega)
  have hmul : 5748 * (t + 273) ≤ coldAbsolute pc tref t * (t + 273) := Int.mul_le_mul_of_nonneg_right (by omega) (by omega)
  have hnum : (pc : Int) * (tref + 273) ≤ 4094 * 313 := Int.mul_le_mul (by omega) (by omega) (by omega) (by omega)
  omega

theorem coldGauge_eq (pc ambient tref : Nat) (t : Int) :
    ((coldGauge pc ambient tref t).1 : Int) = max 0 (min 4000 (coldAbsolute pc tref t - ambient)) ∧
      ((coldGauge pc ambient tref t).2 = true ↔ coldAbsolute pc tref t < ambient ∨ 4000 < coldAbsolute pc tref t - ambient) := by
  simp only [coldGauge, clampInt_eq (show (0 : Int) ≤ 4000 by decide), decide_eq_true_iff]
  omega

theorem hotGauge_eq (pc ambient : Nat) :
    (hotGauge pc ambient).1 = pc - ambient ∧ ((hotGauge pc ambient).2 = true ↔ pc < ambient) := by
  unfold hotGauge
  split <;> simp <;> omega

/-! ## Which results are present (R85, R86) -/

theorem pressureOf_eq (code : BitVec 12) : pressureOf code = if code = 4095#12 then none else some code.toNat := by
  have hcode : code.toNat = 4095 ↔ code = 4095#12 := by rw [← BitVec.toNat_inj]; rfl
  unfold pressureOf
  simp only [hcode]

theorem temperatureOf_eq (code : BitVec 8) : temperatureOf code = if code = 255#8 then none else some ((code.toNat : Int) - 50) := by
  have hcode : code.toNat = 255 ↔ code = 255#8 := by rw [← BitVec.toNat_inj]; rfl
  unfold temperatureOf
  simp only [hcode]

/-- Settles O45: the quotient is bracketed by the rounded numerator; the results follow from the two codes. -/
theorem gaugesAreRoundedAndClamped : Obligations.GaugesAreRoundedAndClamped := by
  unfold Obligations.GaugesAreRoundedAndClamped
  refine ⟨fun pc ambient tref t hpc _ _ htref ht _ => ?gauges, fun e c => ?present⟩
  case gauges =>
    intro pca
    obtain ⟨hle, hlt⟩ := coldAbsolute_bracket (pc := pc) (tref := tref) (t := t) (by omega)
    have hdouble : 2 * pca * (t + 273) = 2 * (coldAbsolute pc tref t * (t + 273)) := Int.mul_assoc _ _ _
    have hnum : 2 * (pc : Int) * (tref + 273) = 2 * ((pc : Int) * (tref + 273)) := Int.mul_assoc _ _ _
    refine ⟨?_, ?_, coldAbsolute_nonneg (by omega), coldAbsolute_le hpc htref ht, coldGauge_eq _ _ _ _, hotGauge_eq _ _⟩
    · rw [hdouble, hnum]
      omega
    · rw [hdouble, hnum]
      omega
  case present =>
    intro r pc tc t cold rate
    have hpressure := pressureOf_eq e.telegram.pressureCode
    have htemperature := temperatureOf_eq e.telegram.temperatureCode
    by_cases hp : e.telegram.pressureCode = 4095#12 <;> by_cases ht : e.telegram.temperatureCode = 255#8
    · rw [if_pos hp, hp] at hpressure
      rw [if_pos ht, ht] at htemperature
      simp [r, pc, tc, assess, hpressure, htemperature, hp, ht]
    · rw [if_pos hp, hp] at hpressure
      rw [if_neg ht] at htemperature
      simp [r, pc, tc, t, assess, hpressure, htemperature, hp, ht]
    · rw [if_neg hp] at hpressure
      rw [if_pos ht, ht] at htemperature
      simp [r, pc, tc, rate, assess, hpressure, htemperature, hp, ht]
    · rw [if_neg hp] at hpressure
      rw [if_neg ht] at htemperature
      simp [r, pc, tc, t, rate, cold, assess, hpressure, htemperature, hp, ht, or_assoc]

end Sys2Proof.Machine

/-! PROOF. The history window's spacing and the loss rate (R90 to R92). -/

namespace Sys2Proof.Machine

/-! ## Stage 4, case by case (R90) -/

section
variable {load : LoadState} {interval : Nat} {f : FrameNo} {w : List Sample} {g : Nat}

theorem nextWindow_held {pg : Option Nat} (h : load = .tipping ∨ pg = none) : nextWindow load interval f pg w = w := by
  unfold nextWindow
  rcases h with h | h
  · cases pg with
    | none => rfl
    | some g => exact if_pos h
  · rw [h]

theorem nextWindow_considered (h : load ≠ .tipping) : nextWindow load interval f (some g) w = considerSample interval f g w :=
  if_neg h

theorem considerSample_nil : considerSample interval f g [] = [⟨f, g⟩] := rfl

theorem considerSample_concat (older : List Sample) (newest : Sample) :
    considerSample interval f g (older ++ [newest]) =
      if 3 * interval < (f - newest.frame).toNat then [⟨f, g⟩]
      else if interval ≤ (f - newest.frame).toNat then appendSample (older ++ [newest]) ⟨f, g⟩
      else older ++ [newest] := by
  rw [considerSample, List.getLast?_concat]
  rfl

theorem appendSample_room (h : w.length < 8) (x : Sample) : appendSample w x = w ++ [x] := if_neg (Nat.not_le.mpr h)

theorem appendSample_full (h : w.length = 8) (x : Sample) : appendSample w x = w.tail ++ [x] := by
  rw [appendSample, if_pos (show Config.window ≤ w.length from h.ge), List.drop_one]

/-- A new sample stands behind those of a window, or behind all but the oldest of a full one. -/
theorem appendSample_chain {R : Sample → Sample → Prop} {older : List Sample} {newest x : Sample}
    (h : (older ++ [newest]).IsChain R) (hx : R newest x) : (appendSample (older ++ [newest]) x).IsChain R := by
  have hnext : ∀ l : List Sample, l.IsChain R → (∀ y ∈ l.getLast?, y = newest) → (l ++ [x]).IsChain R := fun l hl hlast =>
    hl.append (.singleton x) fun y hy z hz => by
      rw [hlast y hy, ← Option.mem_some_iff.mp hz]
      exact hx
  unfold appendSample
  split
  · rw [List.drop_one]
    refine hnext _ h.tail fun y hy => ?_
    cases older with
    | nil => exact absurd hy (by simp)
    | cons o older =>
      rw [List.cons_append, List.tail_cons, List.getLast?_concat] at hy
      exact (Option.some.inj hy).symm
  · refine hnext _ h fun y hy => ?_
    rw [List.getLast?_concat] at hy
    exact (Option.some.inj hy).symm

end

/-! ## Stage 5: the rate (R92) -/

theorem clampInt_pos {lo hi n : Int} (hlo : lo ≤ 0) (h : 0 < clampInt lo hi n) : 0 < n := by
  unfold clampInt at h
  split_ifs at h <;> omega

theorem clampInt_neg {lo hi n : Int} (hhi : 0 ≤ hi) (h : clampInt lo hi n < 0) : n < 0 := by
  unfold clampInt at h
  split_ifs at h <;> omega

/-- A quotient cut toward zero by a divisor that is not negative has the dividend's sign, or is 0. -/
theorem pos_of_tdiv_pos {a b : Int} (hb : 0 ≤ b) (h : 0 < a.tdiv b) : 0 < a := by
  by_contra ha
  have hneg : 0 ≤ (-a).tdiv b := Int.tdiv_nonneg (by omega) hb
  rw [Int.neg_tdiv] at hneg
  omega

theorem neg_of_tdiv_neg {a b : Int} (hb : 0 ≤ b) (h : a.tdiv b < 0) : a < 0 := by
  by_contra ha
  exact absurd h (Int.not_lt.mpr (Int.tdiv_nonneg (by omega) hb))

/-- A quotient cut toward zero, by its size. -/
theorem tdiv_bracket (a : Int) {b : Int} (hb : 0 < b) : |a.tdiv b| * b ≤ |a| ∧ |a| < (|a.tdiv b| + 1) * b := by
  have hnonneg : ∀ n : Int, 0 ≤ n → |n.tdiv b| * b ≤ |n| ∧ |n| < (|n.tdiv b| + 1) * b := fun n hn => by
    rw [Int.tdiv_eq_ediv_of_nonneg hn, abs_of_nonneg hn, abs_of_nonneg (Int.ediv_nonneg hn hb.le)]
    exact ⟨Int.ediv_mul_le n hb.ne', Int.lt_ediv_add_one_mul_self n hb⟩
  rcases Int.le_total 0 a with ha | ha
  · exact hnonneg a ha
  · have hneg := hnonneg (-a) (by omega)
    rwa [Int.neg_tdiv, abs_neg, abs_neg] at hneg

theorem lossRate_short {w : List Sample} (h : w.length < 4) (period : Nat) : lossRate w period = (none, false) := if_pos h

theorem lossRate_window {oldest newest : Sample} {between : List Sample} (h : 2 ≤ between.length) (period : Nat) :
    lossRate (oldest :: between ++ [newest]) period =
      (some (clampInt (-999) 999 (rawRate oldest newest period)),
        decide (rawRate oldest newest period < -999 ∨ 999 < rawRate oldest newest period)) := by
  have hlong : ¬(oldest :: between ++ [newest]).length < 4 := by simp; omega
  have hlast : (oldest :: between ++ [newest]).getLast? = some newest := List.getLast?_concat
  rw [lossRate, if_neg hlong, hlast]
  rfl

/-- Settles O46: the window by its newest sample, the rate by the sign and the size of its quotient. -/
theorem windowSpacingAndLossRate : Obligations.WindowSpacingAndLossRate := by
  unfold Obligations.WindowSpacingAndLossRate
  refine ⟨fun load interval f pg w => ?window, fun w period => ⟨fun h => lossRate_short h period, ?rate⟩⟩
  case window =>
    intro spaced
    refine ⟨fun h => ⟨nextWindow_length h.1 _ _ _ _, ?chain⟩, nextWindow_held, fun g hload hg => ⟨fun hw => ?empty, ?newest⟩⟩
    case chain =>
      by_cases hheld : load = .tipping ∨ pg = none
      · rw [nextWindow_held hheld]
        exact h.2
      · obtain ⟨hload, hpg⟩ := not_or.mp hheld
        obtain ⟨g, rfl⟩ := Option.ne_none_iff_exists'.mp hpg
        rw [nextWindow_considered hload]
        rcases List.eq_nil_or_concat' w with rfl | ⟨older, newest, rfl⟩
        · exact .singleton _
        · rw [considerSample_concat]
          split_ifs with hfar hnear
          · exact .singleton _
          · exact appendSample_chain h.2 ⟨hnear, Nat.not_lt.mp hfar⟩
          · exact h.2
    case empty => rw [hg, nextWindow_considered hload, hw, considerSample_nil]
    case newest =>
      intro older newest hw gap
      have hcases : nextWindow load interval f pg w = if 3 * interval < gap then [⟨f, g⟩]
          else if interval ≤ gap then appendSample w ⟨f, g⟩ else w := by
        rw [hg, nextWindow_considered hload, hw]
        exact considerSample_concat older newest
      refine ⟨fun hfar => ?_, fun hnear hshort => ?_, fun hnear hlong hroom => ?_, fun hnear hlong hfull => ?_⟩
      · rw [hcases, if_pos hfar]
      · rw [hcases, if_neg (Nat.not_lt.mpr hnear), if_neg (Nat.not_le.mpr hshort)]
      · rw [hcases, if_neg (Nat.not_lt.mpr hnear), if_pos hlong, appendSample_room hroom]
      · rw [hcases, if_neg (Nat.not_lt.mpr hnear), if_pos hlong, appendSample_full hfull]
  case rate =>
    intro oldest newest between hw hlen
    rw [hw, lossRate_window hlen]
    have hspan : 0 ≤ (age newest.frame oldest.frame : Int) * (period : Int) := by positivity
    have hfalls : 0 < rawRate oldest newest period → 0 < ((oldest.cold : Int) - newest.cold) * 3600 := pos_of_tdiv_pos hspan
    have hrises : rawRate oldest newest period < 0 → ((oldest.cold : Int) - newest.cold) * 3600 < 0 := neg_of_tdiv_neg hspan
    obtain ⟨hlo, hhi⟩ := clampInt_range (show (-999 : Int) ≤ 999 by decide) (rawRate oldest newest period)
    refine ⟨⟨_, rfl, hlo, hhi, fun h => ?_, fun h => ?_⟩, ?quotient⟩
    · have := hfalls (clampInt_pos (by decide) h)
      omega
    · have := hrises (clampInt_neg (by decide) h)
      omega
    case quotient =>
      intro hne hperiod fall seconds
      have hage : 0 < (newest.frame - oldest.frame).toNat := by
        refine Nat.pos_of_ne_zero fun h => hne ?_
        have hzero : newest.frame - oldest.frame = 0#32 := BitVec.eq_of_toNat_eq h
        exact sub_eq_zero.mp hzero
      have hseconds : 0 < seconds := Int.mul_pos (by omega) (by omega)
      obtain ⟨hle, hlt⟩ := tdiv_bracket fall hseconds
      exact ⟨rawRate oldest newest period, hle, hlt, hfalls, hrises, by rw [clampInt_eq (by decide)]⟩

end Sys2Proof.Machine

/-! PROOF. The thresholds and the tests of the ten kinds (R93 to R101). -/

namespace Sys2Proof.Machine

/-! ## The thresholds (R93) -/

theorem Limits.inRange_percentages {l : Limits} (h : l.inRange = true) : l.lowWarnPct < l.lowAlarmPct := by
  have hall := of_decide_eq_true h
  omega

theorem Limits.inRange_temperatures {l : Limits} (h : l.inRange = true) : l.hotWarn < l.hotAlarm := by
  have hall := of_decide_eq_true h
  omega

theorem Limits.inRange_dual {l : Limits} (h : l.inRange = true) : 10 ≤ l.dual := by
  have hall := of_decide_eq_true h
  omega

/-- The harder of the two low thresholds lies no higher (R93). -/
theorem thresholds_low (n : Nat) {l : Limits} (h : l.inRange = true) : (thresholds n l).lowAlarm ≤ (thresholds n l).lowWarn := by
  have hpct := Limits.inRange_percentages h
  exact Nat.div_le_div_right (Nat.mul_le_mul_left n (by omega))

/-! ## A test of each group (R95 to R99) -/

section
variable {c : Capture} {r : Results}

theorem pressureVerdict_of_cold {pg : Nat} (h : r.cold = some pg) (hload : c.load ≠ .tipping) (v : Nat → Thresholds → Verdict) :
    pressureVerdict c r v = some (v pg (thresholds (nominalOf c.load c.axle) c.limits)) := by
  rw [pressureVerdict, h]
  exact if_neg hload

theorem pressureVerdict_held (h : r.cold = none ∨ c.load = .tipping) (v : Nat → Thresholds → Verdict) :
    pressureVerdict c r v = none := by
  unfold pressureVerdict
  split
  · rename_i pg hcold
    exact if_pos (h.resolve_left (by rw [hcold]; exact Option.some_ne_none pg))
  · rfl

theorem pressureVerdict_eq_some {v : Nat → Thresholds → Verdict} {u : Verdict} (h : pressureVerdict c r v = some u) :
    ∃ pg, r.cold = some pg ∧ c.load ≠ .tipping ∧ u = v pg (thresholds (nominalOf c.load c.axle) c.limits) := by
  by_cases hheld : r.cold = none ∨ c.load = .tipping
  · rw [pressureVerdict_held hheld] at h
    cases h
  · obtain ⟨hcold, hload⟩ := not_or.mp hheld
    obtain ⟨pg, hpg⟩ := Option.ne_none_iff_exists'.mp hcold
    rw [pressureVerdict_of_cold hpg hload] at h
    exact ⟨pg, hpg, hload, (Option.some.inj h).symm⟩

theorem gaugeDiff_eq (a b : Nat) : (gaugeDiff a b : Int) = |(a : Int) - b| := by
  unfold gaugeDiff
  rcases Nat.le_total a b with h | h
  · rw [abs_of_nonpos (by omega)]
    omega
  · rw [abs_of_nonneg (by omega)]
    omega

/-- When a twin partner's gauge serves (R98). -/
theorem usablePartner_eq_some_iff (c : Capture) (g : Nat) : usablePartner c = some g ↔
    c.axle.twin = true ∧ ∃ q f, c.partner = some q ∧ q.state ∈ [PosState.assigned, .active, .missing] ∧ q.coldGauge = some g ∧
      q.lastHeard = some f ∧ (c.startFrame - f).toNat < c.silenceLimit := by
  unfold usablePartner
  cases hq : c.partner with
  | none => simp
  | some q =>
    cases hf : q.lastHeard with
    | none => simp [hf]
    | some f =>
      have htest : (c.axle.twin && q.state.bound && decide (age c.startFrame f < c.silenceLimit)) = true ↔
          c.axle.twin = true ∧ q.state ∈ [PosState.assigned, .active, .missing] ∧ (c.startFrame - f).toNat < c.silenceLimit := by
        rw [Bool.and_eq_true, Bool.and_eq_true, PosState.bound_iff, decide_eq_true_iff, and_assoc]
        rfl
      simp only [hf]
      by_cases ht : (c.axle.twin && q.state.bound && decide (age c.startFrame f < c.silenceLimit)) = true
      · obtain ⟨htwin, hstate, hage⟩ := htest.mp ht
        rw [if_pos ht]
        constructor
        · exact fun h => ⟨htwin, q, f, rfl, hstate, h, hf, hage⟩
        · rintro ⟨_, q', f', hq', _, hg, _⟩
          rw [Option.some.inj hq']
          exact hg
      · rw [if_neg ht]
        constructor
        · exact fun h => absurd h (by simp)
        · rintro ⟨htwin, q', f', hq', hstate, _, hf', hage⟩
          obtain rfl := Option.some.inj hq'
          rw [hf] at hf'
          obtain rfl := Option.some.inj hf'
          exact absurd (htest.mpr ⟨htwin, hstate, hage⟩) ht

theorem dualVerdict_of {pg q : Nat} (hcold : r.cold = some pg) (hq : usablePartner c = some q) (hload : c.load ≠ .tipping) :
    dualVerdict c r = some ⟨decide (c.limits.dual ≤ gaugeDiff pg q),
      decide (gaugeDiff pg q < max (c.limits.dual - c.limits.hysteresis) 1)⟩ := by
  rw [dualVerdict, hcold, hq]
  exact if_neg hload

theorem dualVerdict_held (h : r.cold = none ∨ c.load = .tipping ∨ usablePartner c = none) : dualVerdict c r = none := by
  unfold dualVerdict
  split
  · rename_i pg q hcold hq
    refine if_pos ?_
    rcases h with h | h | h
    · rw [h] at hcold
      cases hcold
    · exact h
    · rw [h] at hq
      cases hq
  · rfl

theorem leakVerdict_fast {e : QueueEntry} (hload : c.load ≠ .tipping) (h : e.telegram.flags.fastLoss = true) :
    leakVerdict e c r = some ⟨true, false⟩ := by
  unfold leakVerdict
  rw [if_neg hload]
  cases r.rate <;> simp [h]

theorem leakVerdict_rate {e : QueueEntry} (hload : c.load ≠ .tipping) (h : e.telegram.flags.fastLoss = false) {x : Int}
    (hx : r.rate = some x) :
    leakVerdict e c r = some ⟨decide ((c.limits.leak : Int) ≤ x), decide (x < ((c.limits.leak / 2 : Nat) : Int))⟩ := by
  unfold leakVerdict
  rw [if_neg hload, hx]
  simp [h]

theorem leakVerdict_held {e : QueueEntry} (h : c.load = .tipping ∨ (e.telegram.flags.fastLoss = false ∧ r.rate = none)) :
    leakVerdict e c r = none := by
  unfold leakVerdict
  by_cases hload : c.load = .tipping
  · exact if_pos hload
  · obtain ⟨hfast, hrate⟩ := h.resolve_left hload
    rw [if_neg hload, hrate]
    simp [hfast]

end

/-! ## The two tests of a kind (R94) -/

section
variable {e : QueueEntry} {c : Capture} {r : Results} {here : PosState}

theorem verdict_lowAlarm : verdict e c r here .lowAlarm = pressureVerdict c r (fun pg th =>
    ⟨decide (pg < th.lowAlarm), decide (th.lowAlarm + c.limits.hysteresis ≤ pg)⟩) := rfl

theorem verdict_lowWarn : verdict e c r here .lowWarn = pressureVerdict c r (fun pg th =>
    ⟨decide (pg < th.lowWarn), decide (th.lowWarn + c.limits.hysteresis ≤ pg)⟩) := rfl

theorem verdict_highWarn : verdict e c r here .highWarn = pressureVerdict c r (fun pg th =>
    ⟨decide (th.highWarn < pg), decide (pg ≤ th.highWarn - c.limits.hysteresis)⟩) := rfl

theorem verdict_pressure_held {k : Kind} (hk : k ∈ [Kind.lowAlarm, .lowWarn, .highWarn]) (h : r.cold = none ∨ c.load = .tipping) :
    verdict e c r here k = none := by
  simp only [List.mem_cons, List.not_mem_nil, or_false] at hk
  rcases hk with rfl | rfl | rfl
  · rw [verdict_lowAlarm, pressureVerdict_held h]
  · rw [verdict_lowWarn, pressureVerdict_held h]
  · rw [verdict_highWarn, pressureVerdict_held h]

theorem pressure_gap {v : Nat → Thresholds → Verdict} {u : Verdict} (h : pressureVerdict c r v = some u)
    (hv : ∀ pg th, ¬((v pg th).raises = true ∧ (v pg th).clears = true)) : ¬(u.raises = true ∧ u.clears = true) := by
  obtain ⟨pg, _, _, rfl⟩ := pressureVerdict_eq_some h
  exact hv pg _

theorem temperature_gap {limit : Nat} {u : Verdict} (h : temperatureVerdict r limit = some u) :
    ¬(u.raises = true ∧ u.clears = true) := by
  obtain ⟨t, _, rfl⟩ := Option.map_eq_some_iff.mp h
  simp only [decide_eq_true_iff]
  omega

theorem leak_gap {u : Verdict} (h : leakVerdict e c r = some u) : ¬(u.raises = true ∧ u.clears = true) := by
  by_cases hload : c.load = .tipping
  · rw [leakVerdict_held (.inl hload)] at h
    cases h
  · cases hfast : e.telegram.flags.fastLoss with
    | true =>
      rw [leakVerdict_fast hload hfast] at h
      obtain rfl := Option.some.inj h
      exact fun hboth => absurd hboth.2 Bool.false_ne_true
    | false =>
      cases hrate : r.rate with
      | none =>
        rw [leakVerdict_held (.inr ⟨hfast, hrate⟩)] at h
        cases h
      | some x =>
        rw [leakVerdict_rate hload hfast hrate] at h
        obtain rfl := Option.some.inj h
        simp only [decide_eq_true_iff]
        omega

theorem dual_gap (hl : c.limits.inRange = true) {u : Verdict} (h : dualVerdict c r = some u) :
    ¬(u.raises = true ∧ u.clears = true) := by
  have hdual := Limits.inRange_dual hl
  by_cases hheld : r.cold = none ∨ c.load = .tipping ∨ usablePartner c = none
  · rw [dualVerdict_held hheld] at h
    cases h
  · simp only [not_or] at hheld
    obtain ⟨hcold, hload, hpartner⟩ := hheld
    obtain ⟨pg, hpg⟩ := Option.ne_none_iff_exists'.mp hcold
    obtain ⟨q, hq⟩ := Option.ne_none_iff_exists'.mp hpartner
    rw [dualVerdict_of hpg hq hload] at h
    obtain rfl := Option.some.inj h
    simp only [decide_eq_true_iff]
    omega

/-- No kind is raised and cleared by one verdict: the clearing test keeps its distance from the raising test (R94). -/
theorem verdict_gap (hl : c.limits.inRange = true) {k : Kind} {v : Verdict} (h : verdict e c r here k = some v) :
    ¬(v.raises = true ∧ v.clears = true) := by
  cases k with
  | lowAlarm =>
    rw [verdict_lowAlarm] at h
    exact pressure_gap h fun pg th => by simp only [decide_eq_true_iff]; omega
  | lowWarn =>
    rw [verdict_lowWarn] at h
    exact pressure_gap h fun pg th => by simp only [decide_eq_true_iff]; omega
  | highWarn =>
    rw [verdict_highWarn] at h
    exact pressure_gap h fun pg th => by simp only [decide_eq_true_iff]; omega
  | hotAlarm | hotWarn => exact temperature_gap h
  | leak => exact leak_gap h
  | dualImbalance => exact dual_gap hl h
  | sensorFault =>
    obtain rfl := Option.some.inj h
    exact fun ⟨hbad, hgood⟩ => by
      rw [show (faultVerdict e).clears = !(faultVerdict e).raises from rfl, hbad] at hgood
      exact absurd hgood (by decide)
  | batteryLow =>
    obtain rfl := Option.some.inj h
    simp only [decide_eq_true_iff]
    omega
  | missing =>
    obtain rfl := Option.some.inj h
    simp

end

/-- Settles O47: each kind's verdict by the group it belongs to. -/
theorem verdictsLeaveAGap : Obligations.VerdictsLeaveAGap := by
  unfold Obligations.VerdictsLeaveAGap
  refine ⟨fun n l hl => ?thresholds, fun e c r here hl => ?tests⟩
  case thresholds =>
    intro th
    have hlow : ∀ x : Nat, 100 * (x / 100) ≤ x ∧ x < 100 * (x / 100) + 100 := by omega
    have hhigh : ∀ x : Nat, x ≤ 100 * ((x + 99) / 100) ∧ 100 * ((x + 99) / 100) < x + 100 := by omega
    exact ⟨hlow _, hlow _, hhigh _, thresholds_low n hl⟩
  case tests =>
    intro l th is held
    have pressure : ∀ {k : Kind}, k ∈ [Kind.lowAlarm, .lowWarn, .highWarn] → r.cold = none ∨ c.load = .tipping → held k :=
      fun hk h => verdict_pressure_held hk h
    have temperature : ∀ {k : Kind} {limit : Nat} {t : Int}, verdict e c r here k = temperatureVerdict r limit →
        r.temperature = some t → is k ((limit : Int) ≤ t) (t < (limit : Int) - 3) := fun hk ht => by
      refine ⟨_, hk.trans (by rw [temperatureVerdict, ht]; rfl), ?_, ?_⟩ <;> exact decide_eq_true_iff
    have temperatureHeld : ∀ limit : Nat, r.temperature = none → temperatureVerdict r limit = none := fun limit h => by
      rw [temperatureVerdict, h]
      rfl
    refine ⟨fun pg hcold hload => ⟨?_, ?_, ?_⟩, fun h => ⟨pressure (by decide) h, pressure (by decide) h, pressure (by decide) h⟩,
      fun t ht => ⟨temperature rfl ht, temperature rfl ht⟩, fun ht => ⟨temperatureHeld _ ht, temperatureHeld _ ht⟩,
      ?leak, ?dual, ?fault, ?battery, ?missing,
      fun k v => verdict_gap hl, fun v hv hraises => ?lowPair, fun v hv hraises => ?hotPair, fun hload k hk => ?tipping⟩
    · exact ⟨_, verdict_lowAlarm.trans (pressureVerdict_of_cold hcold hload _), decide_eq_true_iff, decide_eq_true_iff⟩
    · exact ⟨_, verdict_lowWarn.trans (pressureVerdict_of_cold hcold hload _), decide_eq_true_iff, decide_eq_true_iff⟩
    · refine ⟨_, verdict_highWarn.trans (pressureVerdict_of_cold hcold hload _), decide_eq_true_iff, decide_eq_true_iff.trans ?_⟩
      show pg ≤ th.highWarn - l.hysteresis ↔ _
      omega
    case leak =>
      intro fast
      refine ⟨fun hload hsome => ?_, fun h => leakVerdict_held (h.imp_right fun hn => ⟨Bool.eq_false_iff.mpr hn.1, hn.2⟩)⟩
      by_cases hfast : e.telegram.flags.fastLoss = true
      · refine ⟨_, leakVerdict_fast hload hfast, iff_of_true rfl (.inl hfast), iff_of_false Bool.false_ne_true fun h => h.1 hfast⟩
      · obtain ⟨x, hx⟩ := Option.ne_none_iff_exists'.mp (hsome.resolve_left hfast)
        refine ⟨_, leakVerdict_rate hload (Bool.eq_false_iff.mpr hfast) hx, decide_eq_true_iff.trans ?_, decide_eq_true_iff.trans ?_⟩
        · exact ⟨fun h => .inr ⟨x, hx, h⟩, fun h => by
            obtain ⟨y, hy, hle⟩ := h.resolve_left hfast
            rwa [Option.some.inj (hx.symm.trans hy)]⟩
        · constructor
          · intro h
            refine ⟨hfast, fun y hy => ?_⟩
            rw [← Option.some.inj (hx.symm.trans hy)]
            exact h
          · exact fun h => h.2 x hx
    case dual =>
      intro usable
      have husable : ∀ g, usablePartner c = some g ↔ usable g := usablePartner_eq_some_iff c
      refine ⟨fun g pg hg hcold hload => ?_, fun h => dualVerdict_held (h.imp_right (Or.imp_right fun hno => ?_))⟩
      · refine ⟨_, dualVerdict_of hcold ((husable g).mpr hg) hload, decide_eq_true_iff.trans ?_, decide_eq_true_iff.trans ?_⟩
        · rw [← gaugeDiff_eq, Int.ofNat_le]
        · rw [← gaugeDiff_eq]
          show gaugeDiff pg g < max (l.dual - l.hysteresis) 1 ↔ _
          omega
      · by_contra hsome
        obtain ⟨g, hg⟩ := Option.ne_none_iff_exists'.mp hsome
        exact hno g ((husable g).mp hg)
    case fault =>
      intro bad
      have hbad : (faultVerdict e).raises = true ↔ bad := by
        have hp : e.telegram.pressureCode.toNat = 4095 ↔ e.telegram.pressureCode = 4095#12 := by rw [← BitVec.toNat_inj]; rfl
        have ht : e.telegram.temperatureCode.toNat = 255 ↔ e.telegram.temperatureCode = 255#8 := by rw [← BitVec.toNat_inj]; rfl
        simp only [faultVerdict, Bool.or_eq_true, beq_iff_eq, hp, ht, or_assoc, bad]
      refine ⟨_, rfl, hbad, ?_⟩
      rw [show (faultVerdict e).clears = !(faultVerdict e).raises from rfl, Bool.not_eq_true', ← hbad, Bool.not_eq_true]
    case battery => exact ⟨_, rfl, decide_eq_true_iff, decide_eq_true_iff⟩
    case missing => exact ⟨_, rfl, beq_iff_eq, bne_iff_ne⟩
    case lowPair =>
      obtain ⟨pg, hpg, hload, rfl⟩ := pressureVerdict_eq_some (verdict_lowAlarm.symm.trans hv)
      refine ⟨_, verdict_lowWarn.trans (pressureVerdict_of_cold hpg hload _), decide_eq_true_iff.mpr ?_⟩
      have hle := thresholds_low (nominalOf c.load c.axle) hl
      have hlt := decide_eq_true_iff.mp hraises
      omega
    case hotPair =>
      obtain ⟨t, ht, rfl⟩ := Option.map_eq_some_iff.mp (show temperatureVerdict r l.hotAlarm = some v from hv)
      obtain ⟨u, hu, hraise, _⟩ := temperature (k := .hotWarn) rfl ht
      refine ⟨u, hu, hraise.mpr ?_⟩
      have hlt := Limits.inRange_temperatures hl
      have hle : (c.limits.hotAlarm : Int) ≤ t := decide_eq_true_iff.mp hraises
      show (c.limits.hotWarn : Int) ≤ t
      omega
    case tipping =>
      simp only [List.mem_cons, List.not_mem_nil, or_false] at hk
      rcases hk with rfl | rfl | rfl | rfl | rfl
      · exact pressure (by decide) (.inr hload)
      · exact pressure (by decide) (.inr hload)
      · exact pressure (by decide) (.inr hload)
      · exact leakVerdict_held (.inl hload)
      · exact dualVerdict_held (.inr (.inl hload))

end Sys2Proof.Machine

/-! PROOF. Confirmation of a kind, and the notices of a kind that changes (R106 to R115). -/

namespace Sys2Proof.Machine

/-! ## One sub-record replaced (R102) -/

theorem PerKind.put_put {α : Type} (t : PerKind α) (k : Kind) (a b : α) : (t.put k a).put k b = t.put k b := by cases k <;> rfl

theorem State.setAlarm_pos_self {s : State} {p : Nat} (hp : p < s.positions.length) (k : Kind) (a : SubRecord) :
    (s.setAlarm p k a).pos p = { s.pos p with alarms := (s.pos p).alarms.put k a } :=
  (State.setAlarm_pos s p p k a).trans (if_pos ⟨rfl, hp⟩)

@[simp] theorem State.setAlarm_wheel (s : State) (p q : Nat) (k : Kind) (a : SubRecord) :
    ((s.setAlarm p k a).pos q).wheel = (s.pos q).wheel := by
  rw [State.setAlarm_pos]
  split
  · rename_i h
    rw [h.1]
  · rfl

theorem State.setAlarm_setAlarm {s : State} {p : Nat} (hp : p < s.positions.length) (k : Kind) (a b : SubRecord) :
    (s.setAlarm p k a).setAlarm p k b = s.setAlarm p k b := by
  have hpos := State.setAlarm_pos_self hp k a
  have hset : (s.setAlarm p k a).setAlarm p k b = (s.setAlarm p k a).setPos p { s.pos p with alarms := (s.pos p).alarms.put k b } := by
    rw [State.setAlarm, hpos]
    dsimp only
    rw [PerKind.put_put]
  rw [hset]
  simp only [State.setAlarm, State.setPos, List.set_set]

/-! ## The notices of a kind that changes (R111, R112, R114, R115) -/

section
variable (s : State) (p : Nat) (k : Kind) (f : FrameNo)

/-- The ALARM notice of an event, queued by the kind's class; a kind of class 0 queues none (R111, R115). -/
theorem State.queueAlarm_setAlarm (a : SubRecord) (x : AlarmEvent) : (s.setAlarm p k a).queueAlarm p k x f =
    if (s.kinds.get k).cls = 0 then s.setAlarm p k a else
      (s.setAlarm p k a).queueNotice (.alarm p k x f (s.pos p).wheel.coldGauge (s.pos p).wheel.temperature)
        (if (s.kinds.get k).cls = 2 then 0 else 2) := by
  rw [State.queueAlarm_eq, State.setAlarm_wheel]
  rfl

/-- The waiting raises of a kind at a position (R114). -/
def Entry.waitingRaise (p : Nat) (k : Kind) (e : Entry) : Bool := e.waits && e.notice.raiseFor p k

theorem State.becomeInactive_withdrawn (h : ∃ e ∈ s.store.entries, e.waitingRaise p k = true) :
    s.becomeInactive p k f = { s.setAlarm p k ⟨false, ((s.pos p).alarms.get k).pending, 0⟩ with
      store := s.store.withEntries (s.store.entries.filter (fun e => !e.waitingRaise p k)) } := by
  have hcount : (s.store.withdraw (Notice.raiseFor p k)).2 ≠ 0 := by
    obtain ⟨e, he, hw⟩ := h
    have hlt : (s.store.entries.filter (fun e => !e.waitingRaise p k)).length < s.store.entries.length :=
      List.length_filter_lt_length_iff_exists.mpr ⟨e, he, by simp [hw]⟩
    exact Nat.sub_ne_zero_of_lt hlt
  unfold State.becomeInactive
  dsimp only
  rw [if_neg hcount]
  rfl

theorem State.becomeInactive_told (h : ∀ e ∈ s.store.entries, e.waitingRaise p k = false)
    (hattn : s.store.attn = !s.store.entries.isEmpty) :
    s.becomeInactive p k f = (s.setAlarm p k ⟨false, ((s.pos p).alarms.get k).pending, 0⟩).queueAlarm p k .cleared f := by
  have hkept : s.store.entries.filter (fun e => !e.waitingRaise p k) = s.store.entries :=
    List.filter_eq_self.mpr fun e he => by simp [h e he]
  have hsame : (s.store.withdraw (Notice.raiseFor p k)).1 = s.store := by
    show s.store.withEntries (s.store.entries.filter (fun e => !e.waitingRaise p k)) = s.store
    rw [hkept, NoticeStore.withEntries, ← hattn]
  have hcount : (s.store.withdraw (Notice.raiseFor p k)).2 = 0 := by
    show s.store.entries.length - (s.store.entries.filter (fun e => !e.waitingRaise p k)).length = 0
    rw [hkept, Nat.sub_self]
  unfold State.becomeInactive
  dsimp only
  rw [if_pos hcount, hsame]

end

/-- Settles O49: each change replaces the sub-record, and then queues its notice by the class. -/
theorem alarmNoticesFollowClass : Obligations.AlarmNoticesFollowClass := by
  unfold Obligations.AlarmNoticesFollowClass
  intro s p k f _ notice queued count
  refine ⟨State.queueAlarm_setAlarm s p k f _ _, State.queueAlarm_setAlarm s p k f _ _, ?cleared⟩
  case cleared =>
    intro waitingRaise quiet
    have hraise : Entry.waitingRaise p k = waitingRaise := funext fun e => by
      obtain ⟨n, priority, state⟩ := e
      refine congrArg (Entry.waits ⟨n, priority, state⟩ && ·) ?_
      cases n <;> rfl
    rw [← hraise]
    refine ⟨fun h => State.becomeInactive_withdrawn s p k f h, fun h hattn => ?_⟩
    rw [State.becomeInactive_told s p k f h hattn, State.queueAlarm_setAlarm]

/-! ## One verdict (R107 to R109, R112) -/

section
variable {s : State} {p : Nat} {f : FrameNo} {k : Kind}

@[simp] theorem State.queueAlarm_positions (s : State) (p : Nat) (k : Kind) (x : AlarmEvent) (f : FrameNo) :
    (s.queueAlarm p k x f).positions = s.positions := by
  rw [State.queueAlarm_eq]
  split
  · rfl
  · exact State.queueNotice_positions _ _ _

theorem State.becomeInactive_positions (s : State) (p : Nat) (k : Kind) (f : FrameNo) : (s.becomeInactive p k f).positions =
    (s.setAlarm p k ⟨false, ((s.pos p).alarms.get k).pending, 0⟩).positions := by
  unfold State.becomeInactive
  dsimp only
  split
  · rw [State.queueAlarm_positions]
    rfl
  · rfl

theorem State.becomeActive_positions (s : State) (p : Nat) (k : Kind) (f : FrameNo) :
    (s.becomeActive p k f).positions = (s.setAlarm p k ⟨true, true, 0⟩).positions := State.queueAlarm_positions _ _ _ _ _

theorem State.standing_positions (hp : p < s.positions.length) : (s.standing p k f).positions =
    (s.setAlarm p k ⟨((s.pos p).alarms.get k).active, ((s.pos p).alarms.get k).pending ||
      (((s.pos p).alarms.get k).active && (s.kinds.get k).type == .level && k != .missing), 0⟩).positions := by
  generalize ha : (s.pos p).alarms.get k = a
  unfold State.standing
  dsimp only
  rw [ha]
  split
  · rename_i hagain
    simp only [Bool.and_eq_true, Bool.not_eq_true'] at hagain
    obtain ⟨⟨⟨hactive, hpending⟩, hlevel⟩, hkind⟩ := hagain
    have hcount : (((s.setAlarm p k { a with count := 0 }).pos p).alarms.get k).count = 0 := by
      rw [State.setAlarm_pos_self hp, PerKind.get_put, if_pos rfl]
    rw [State.raiseAgain, State.queueAlarm_positions, hcount, State.setAlarm_setAlarm hp, hactive, hlevel, hkind]
    simp
  · rename_i hagain
    simp only [Bool.and_assoc] at hagain ⊢
    generalize ((s.kinds.get k).type == .level && k != .missing) = level at hagain ⊢
    have hsame : (a.pending || (a.active && level)) = a.pending := by
      cases hb : a.pending with
      | true => rfl
      | false => simpa [hb] using hagain
    rw [hsame]

theorem State.disagreeing_positions (s : State) (p : Nat) (k : Kind) (f : FrameNo) : (s.disagreeing p k f).positions =
    (s.setAlarm p k (if k = .missing ∨ (s.kinds.get k).confirm = none ∨
        (s.kinds.get k).confirm = some (((s.pos p).alarms.get k).count + 1) then
      ⟨!((s.pos p).alarms.get k).active, ((s.pos p).alarms.get k).pending || !((s.pos p).alarms.get k).active, 0⟩
    else { (s.pos p).alarms.get k with count := ((s.pos p).alarms.get k).count + 1 })).positions := by
  rw [State.disagreeing_eq]
  split
  · cases ha : ((s.pos p).alarms.get k).active with
    | true =>
      rw [if_pos rfl, State.becomeInactive_positions]
      simp
    | false =>
      rw [if_neg Bool.false_ne_true, State.becomeActive_positions]
      simp
  · rfl

/-- A verdict replaces the kind's sub-record by the judged one, and no other record (R107 to R109, R112). -/
theorem State.judgeKind_positions (hp : p < s.positions.length) (v : Verdict) : (s.judgeKind p f k (some v)).positions =
    (s.setAlarm p k (SubRecord.judged (s.kinds.get k) k ((s.pos p).alarms.get k) (some v))).positions := by
  by_cases h : conditionOf v ((s.pos p).alarms.get k).active = ((s.pos p).alarms.get k).active
  · rw [SubRecord.judged, if_pos (by exact h), ← State.standing_positions hp]
    exact congrArg State.positions (if_pos h)
  · rw [SubRecord.judged, if_neg (by exact h), ← State.disagreeing_positions s p k f]
    exact congrArg State.positions (if_neg h)

theorem State.judgeKind_pos (hp : p < s.positions.length) (v : Option Verdict) (q : Nat) : (s.judgeKind p f k v).pos q =
    if q = p then { s.pos p with
      alarms := (s.pos p).alarms.put k (SubRecord.judged (s.kinds.get k) k ((s.pos p).alarms.get k) v) } else s.pos q := by
  cases v with
  | none =>
    have hput : (s.pos p).alarms.put k ((s.pos p).alarms.get k) = (s.pos p).alarms := by cases k <;> rfl
    show s.pos q = _
    split
    · rename_i hq
      rw [hq, SubRecord.judged, hput]
    · rfl
  | some v =>
    rw [State.pos_congr (State.judgeKind_positions hp v) q, State.setAlarm_pos]
    simp only [hp, and_true]

theorem State.judgeKind_length (hp : p < s.positions.length) (v : Option Verdict) :
    (s.judgeKind p f k v).positions.length = s.positions.length := by
  cases v with
  | none => rfl
  | some v =>
    rw [State.judgeKind_positions hp]
    simp [State.setAlarm, State.setPos]

/-- What a verdict moves: the records, and by its notices the store and the conditions (R106). -/
theorem State.queueAlarm_frame (s : State) (p : Nat) (k : Kind) (x : AlarmEvent) (f : FrameNo) : s.queueAlarm p k x f =
    { s with store := (s.queueAlarm p k x f).store, conds := (s.queueAlarm p k x f).conds } := by
  rw [State.queueAlarm_eq]
  split
  · rfl
  · rw [State.queueNotice_eq]

theorem State.becomeActive_frame (s : State) (p : Nat) (k : Kind) (f : FrameNo) : s.becomeActive p k f =
    { s with positions := (s.becomeActive p k f).positions, store := (s.becomeActive p k f).store
             conds := (s.becomeActive p k f).conds } := by
  rw [State.becomeActive, State.queueAlarm_frame]
  rfl

theorem State.becomeInactive_frame (s : State) (p : Nat) (k : Kind) (f : FrameNo) : s.becomeInactive p k f =
    { s with positions := (s.becomeInactive p k f).positions, store := (s.becomeInactive p k f).store
             conds := (s.becomeInactive p k f).conds } := by
  unfold State.becomeInactive
  dsimp only
  split
  · rw [State.queueAlarm_frame]
    rfl
  · rfl

theorem State.judgeKind_eq (s : State) (p : Nat) (f : FrameNo) (k : Kind) (v : Option Verdict) : s.judgeKind p f k v =
    { s with positions := (s.judgeKind p f k v).positions, store := (s.judgeKind p f k v).store
             conds := (s.judgeKind p f k v).conds } := by
  unfold State.judgeKind
  split
  · rfl
  · split
    · unfold State.standing
      dsimp only
      split
      · rw [State.raiseAgain, State.queueAlarm_frame]
        rfl
      · rfl
    · rw [State.disagreeing_eq]
      split
      · split
        · rw [State.becomeInactive_frame]
        · rw [State.becomeActive_frame]
      · rfl

theorem State.judgeKind_kinds (s : State) (p : Nat) (f : FrameNo) (k : Kind) (v : Option Verdict) :
    (s.judgeKind p f k v).kinds = s.kinds := by
  rw [State.judgeKind_eq]

end

/-! ## Successive verdicts (R107) -/

theorem SubRecord.judged_agreeing {x : KindSetting} {k : Kind} {a : SubRecord} {u : Verdict}
    (h : (if a.active then !u.clears else u.raises) = a.active) : (SubRecord.judged x k a (some u)).count = 0 := by
  rw [SubRecord.judged, if_pos h]

theorem SubRecord.judged_counted {x : KindSetting} {k : Kind} {a : SubRecord} {v : Verdict} {c : Nat}
    (h : (if a.active then !v.clears else v.raises) ≠ a.active) (hk : k ≠ .missing) (hc : x.confirm = some c) (hne : c ≠ a.count + 1) :
    SubRecord.judged x k a (some v) = { a with count := a.count + 1 } := by
  have hno : ¬(k = .missing ∨ x.confirm = none ∨ x.confirm = some (a.count + 1)) := by simp [hk, hc, hne]
  rw [SubRecord.judged, if_neg h, if_neg hno]

theorem SubRecord.judged_turned {x : KindSetting} {k : Kind} {a : SubRecord} {v : Verdict} {c : Nat}
    (h : (if a.active then !v.clears else v.raises) ≠ a.active) (hc : x.confirm = some c) (heq : c = a.count + 1) :
    SubRecord.judged x k a (some v) = ⟨!a.active, a.pending || !a.active, 0⟩ := by
  have hyes : k = .missing ∨ x.confirm = none ∨ x.confirm = some (a.count + 1) := by simp [hc, heq]
  rw [SubRecord.judged, if_neg h, if_pos hyes]

/-- The sub-record after some verdicts is the sub-record judged so many times. -/
theorem iterate_judgeKind {s : State} {p : Nat} (hp : p < s.positions.length) (f : FrameNo) (k : Kind) (v : Verdict) (n : Nat) :
    p < ((fun t : State => t.judgeKind p f k (some v))^[n] s).positions.length ∧
      ((fun t : State => t.judgeKind p f k (some v))^[n] s).kinds = s.kinds ∧
      (((fun t : State => t.judgeKind p f k (some v))^[n] s).pos p).alarms.get k =
        (fun a => SubRecord.judged (s.kinds.get k) k a (some v))^[n] ((s.pos p).alarms.get k) := by
  induction n with
  | zero => exact ⟨hp, rfl, rfl⟩
  | succ n ih =>
    obtain ⟨hlen, hkinds, hget⟩ := ih
    rw [Function.iterate_succ_apply', Function.iterate_succ_apply', ← hget]
    refine ⟨by rwa [State.judgeKind_length hlen], by rw [State.judgeKind_kinds, hkinds], ?_⟩
    rw [State.judgeKind_pos hlen, if_pos rfl, PerKind.get_put, if_pos rfl, hkinds]

/-- Settles O48: one verdict judges the sub-record, and C successive disagreeing ones turn it over. -/
theorem confirmationTakesCVerdicts : Obligations.ConfirmationTakesCVerdicts := by
  unfold Obligations.ConfirmationTakesCVerdicts
  refine ⟨fun s p f k v hp => ?one, fun s p f k v c => ?successive⟩
  case one =>
    refine ⟨?_, fun j hj => ?_, fun q hq => ?_, State.judgeKind_kinds s p f k v⟩
    · rw [State.judgeKind_pos hp, if_pos rfl, PerKind.get_put, if_pos rfl]
    · rw [State.judgeKind_pos hp, if_pos rfl, PerKind.get_put, if_neg hj]
    · rw [State.judgeKind_pos hp, if_neg hq]
  case successive =>
    intro a hp hk hc hlt hdis start after
    have hstart : (start.pos p).alarms.get k = { a with count := 0 } := by
      have hpos := State.setAlarm_pos_self hp k { a with count := 0 }
      exact (congrArg (fun r : Position => r.alarms.get k) hpos).trans (by rw [PerKind.get_put, if_pos rfl])
    have hafter : ∀ n, after n = (fun a => SubRecord.judged (s.kinds.get k) k a (some v))^[n] { a with count := 0 } := fun n => by
      have hall := (iterate_judgeKind (s := start) (by simpa [start, State.setPos] using hp) f k v n).2.2
      rw [hstart] at hall
      exact hall
    have hcounts : ∀ n < c, after n = { a with count := n } := by
      intro n
      induction n with
      | zero => exact fun _ => hafter 0
      | succ n ih =>
        intro hn
        rw [hafter, Function.iterate_succ_apply', ← hafter, ih (by omega)]
        exact SubRecord.judged_counted (a := { a with count := n }) hdis hk hc (by show c ≠ n + 1; omega)
    refine ⟨hcounts, ?_, fun u hu => ?_, rfl⟩
    · obtain ⟨n, rfl⟩ := Nat.exists_eq_add_of_lt (Nat.zero_lt_of_lt hlt)
      rw [Nat.zero_add] at hcounts hc ⊢
      rw [hafter, Function.iterate_succ_apply', ← hafter, hcounts n (Nat.lt_succ_self n)]
      exact SubRecord.judged_turned (a := { a with count := n }) hdis hc rfl
    · rw [State.judgeKind_pos hp, if_pos rfl, PerKind.get_put, if_pos rfl]
      exact SubRecord.judged_agreeing hu

end Sys2Proof.Machine

/-! PROOF. An admitted JOIN: refresh, new candidate, learning (R45, R46). -/

namespace Sys2Proof.Machine

/-! ## Steps 4 and 5 (R45) -/

section
variable {s : State} {e : QueueEntry} {older younger : List Candidate} {x : Candidate}

/-- A JOIN of a listed candidate refreshes it in place (R45 step 4). -/
theorem State.admitJoin_refresh (hcs : s.join.candidates = older ++ x :: younger) (hid : x.id = e.telegram.id)
    (hothers : ∀ y ∈ older ++ younger, y.id ≠ e.telegram.id) :
    s.admitJoin e = (s.setCandidates (older ++ x.refresh e :: younger)).learnFrom e := by
  have hfound : findCandidate e.telegram.id s.join.candidates = some x := by rw [hcs]; exact findCandidate_split hid hothers
  have hkept : ∀ l : List Candidate, (∀ y ∈ l, y.id ≠ e.telegram.id) →
      l.map (fun c => if c.id = e.telegram.id then c.refresh e else c) = l := fun l hl => by
    conv_rhs => rw [← List.map_id l]
    exact List.map_congr_left fun y hy => if_neg (hl y hy)
  rw [List.forall_mem_append] at hothers
  have hmap : s.join.candidates.map (fun c => if c.id = e.telegram.id then c.refresh e else c) = older ++ x.refresh e :: younger := by
    rw [hcs, List.map_append, List.map_cons, hkept older hothers.1, hkept younger hothers.2, if_pos hid]
  unfold State.admitJoin
  rw [hfound, if_pos (by rfl), hmap]

/-- A JOIN of a new sensor becomes the last candidate, with its notice (R45 step 5). -/
theorem State.admitJoin_new (hnew : ∀ c ∈ s.join.candidates, c.id ≠ e.telegram.id) (hroom : s.join.candidates.length < 8) :
    s.admitJoin e =
      ((s.setCandidates (s.join.candidates ++ [Candidate.ofJoin e])).queueNotice (Candidate.ofJoin e).notice 5).learnFrom e := by
  have hnone : ¬(findCandidate e.telegram.id s.join.candidates).isSome = true := by simpa [findCandidate] using hnew
  unfold State.admitJoin
  rw [if_neg hnone, if_pos (by exact hroom)]

/-! ## Step 6 (R46) -/

theorem State.learnFrom_stays {u : State} (h : e.telegram.flags.trigger = false ∨ u.learningPosition = none) : u.learnFrom e = u := by
  unfold State.learnFrom
  split
  · rename_i p c hp _
    refine if_neg ?_
    rw [h.resolve_right (by rw [hp]; exact Option.some_ne_none p)]
    exact Bool.false_ne_true
  · rfl

theorem State.learnFrom_offers {u : State} {p : Nat} {c : Candidate} (htrigger : e.telegram.flags.trigger = true)
    (hp : u.learningPosition = some p) (hc : findCandidate e.telegram.id u.join.candidates = some c) :
    u.learnFrom e = u.offerTo p c := by
  unfold State.learnFrom
  rw [hp, hc]
  exact if_pos htrigger

/-- What learning can move: the list and the table. -/
theorem State.learnFrom_eq (u : State) (e : QueueEntry) : u.learnFrom e =
    { u with join := { u.join with candidates := (u.learnFrom e).join.candidates }, positions := (u.learnFrom e).positions } := by
  unfold State.learnFrom
  split
  · split <;> rfl
  · rfl

theorem State.learningPosition_none {u : State} (hlen : u.positions.length = 32) (h : ∀ r ∈ u.positions, r.state ≠ .learning) :
    u.learningPosition = none := by
  refine Option.not_isSome_iff_eq_none.mp fun hsome => ?_
  obtain ⟨r, hr, hl⟩ := (State.learningPosition_isSome_iff hlen).mp hsome
  exact h r hr hl

/-- The LEARNING position is the first one that learns (R46). -/
theorem State.learningPosition_first {u : State} {p : Nat} (hp : p < 32) (hl : (u.pos p).state = .learning)
    (hfirst : ∀ q < p, (u.pos q).state ≠ .learning) : u.learningPosition = some p := by
  refine List.find?_range_eq_some.mpr ⟨by simp [hl], List.mem_range.mpr hp, fun q hq => ?_⟩
  simpa using hfirst q hq

end

theorem not_id_of_nodup {older younger : List Candidate} {x : Candidate}
    (h : ((older ++ x :: younger).map Candidate.id).Nodup) : ∀ y ∈ older ++ younger, y.id ≠ x.id := by
  rw [List.map_append, List.map_cons] at h
  obtain ⟨hnot, -⟩ := List.nodup_middle.mp h |> List.nodup_cons.mp
  rw [← List.map_append] at hnot
  exact fun y hy hid => hnot (hid ▸ List.mem_map_of_mem hy)

/-- A state as steps 4 and 5 leave it: the list, and beside it at most the new candidate's notice (R45). -/
structure State.Listed (e : QueueEntry) (l : List Candidate) (s u : State) : Prop where
  admitted : s.admitJoin e = u.learnFrom e
  frame : u = { s with join := { s.join with candidates := l }, store := u.store, conds := u.conds }
  reply : u.store.reply = s.store.reply
  readings : u.store.readings = s.store.readings
  mask : u.conds.mask = s.conds.mask
  refreshed : (∃ x ∈ s.join.candidates, x.id = e.telegram.id) → u.store = s.store ∧ u.conds = s.conds
  told : (∀ x ∈ s.join.candidates, x.id ≠ e.telegram.id) → s.store.entries.length < 8 →
    u.conds = s.conds ∧ u.store.shown = s.store.shown ++ [((Candidate.ofJoin e).notice, 5)]

theorem State.listed_refresh {s : State} {e : QueueEntry} {older younger : List Candidate} {x : Candidate}
    (hcs : s.join.candidates = older ++ x :: younger) (hid : x.id = e.telegram.id)
    (hothers : ∀ y ∈ older ++ younger, y.id ≠ e.telegram.id) :
    State.Listed e (older ++ x.refresh e :: younger) s (s.setCandidates (older ++ x.refresh e :: younger)) where
  admitted := State.admitJoin_refresh hcs hid hothers
  frame := rfl
  reply := rfl
  readings := rfl
  mask := rfl
  refreshed _ := ⟨rfl, rfl⟩
  told hno := absurd hid (hno x (by rw [hcs]; simp))

theorem State.listed_new {s : State} {e : QueueEntry} (hnew : ∀ c ∈ s.join.candidates, c.id ≠ e.telegram.id)
    (hroom : s.join.candidates.length < 8) : State.Listed e (s.join.candidates ++ [Candidate.ofJoin e]) s
      ((s.setCandidates (s.join.candidates ++ [Candidate.ofJoin e])).queueNotice (Candidate.ofJoin e).notice 5) where
  admitted := State.admitJoin_new hnew hroom
  frame := by rw [State.queueNotice_eq]; rfl
  reply := by rw [State.queueNotice_store, NoticeStore.take_reply]; rfl
  readings := by rw [State.queueNotice_store, NoticeStore.take_readings]; rfl
  mask := by rw [State.queueNotice_mask]; rfl
  refreshed := fun ⟨x, hx, hid⟩ => absurd hid (hnew x hx)
  told _ hstore := by
    rw [State.queueNotice_room (by exact hstore)]
    exact ⟨rfl, NoticeStore.take_shown_room (by rfl) hstore 5⟩

/-- Settles O51: the list as steps 4 and 5 leave it, then step 6 on it. -/
theorem admittedJoinsMakeCandidates : Obligations.AdmittedJoinsMakeCandidates := by
  unfold Obligations.AdmittedJoinsMakeCandidates
  intro s w hw hc hlen hm hadmits e id hfree hnodup older younger c hlist
  have hdecides : s.joinDecision e = s.admitJoin e := by
    refine (State.joinDecision_free hm ?_).trans (if_pos hadmits)
    rintro ⟨r, hr, hstate, hid⟩
    refine hfree r hr ?_ hid
    simp only [List.mem_cons, List.not_mem_nil, or_false] at hstate ⊢
    tauto
  obtain ⟨u, hu, hothers, hid⟩ : ∃ u : State, State.Listed e (older ++ c :: younger) s u ∧
      (∀ y ∈ older ++ younger, y.id ≠ id) ∧ c.id = id := by
    rcases hlist with ⟨x, hcs, hx, rfl⟩ | ⟨hcs, rfl, hroom, hnone, rfl⟩
    · rw [hcs] at hnodup
      have hothers : ∀ y ∈ older ++ younger, y.id ≠ id := hx ▸ not_id_of_nodup hnodup
      have hrefresh : x.refresh e = ⟨id, e.channel, x.firstHeard, e.frame, e.telegram.pressureCode, e.telegram.temperatureCode,
          x.triggerSeen || e.telegram.flags.trigger⟩ := by rw [← hx]; rfl
      exact ⟨_, hrefresh ▸ State.listed_refresh hcs hx hothers, hothers, rfl⟩
    · subst hcs
      exact ⟨_, State.listed_new hnone hroom, by simpa using hnone, rfl⟩
  have hpositions : u.positions = s.positions := by rw [hu.frame]
  have hcandidates : u.join.candidates = older ++ c :: younger := by rw [hu.frame]
  have hseq : u.seq = s.seq := by rw [hu.frame]
  have hpos : ∀ q, u.pos q = s.pos q := State.pos_congr hpositions
  have heq := u.learnFrom_eq e
  have hexec : exec .joinCompletion s = exec .assessmentStart { u.learnFrom e with engine := .idle } := by
    rw [exec_joinCompletion hw hc, show w.entry = e from rfl, hdecides, hu.admitted]
  have hqueue : (u.learnFrom e).queue = s.queue := by rw [heq, hu.frame]
  have hfilters : (u.learnFrom e).join.filters = s.join.filters := by rw [heq, hu.frame]
  have hreoffers : (u.learnFrom e).join.reoffers = s.join.reoffers := by rw [heq, hu.frame]
  have hstore : (u.learnFrom e).store = u.store := by rw [heq]
  have hconds : (u.learnFrom e).conds = u.conds := by rw [heq]
  refine ⟨_, hexec, fun hq => hexec.trans (exec_assessmentStart_empty rfl (hqueue.trans hq)), ?frame,
    hfilters, hreoffers, (congrArg NoticeStore.reply hstore).trans hu.reply, (congrArg NoticeStore.readings hstore).trans hu.readings,
    (congrArg ConditionSet.mask hconds).trans hu.mask, fun h => ⟨hstore.trans (hu.refreshed h).1, hconds.trans (hu.refreshed h).2⟩,
    fun h hroom => ⟨hconds.trans (hu.told h hroom).1, (congrArg NoticeStore.shown hstore).trans (hu.told h hroom).2⟩,
    fun h => ?stays, fun p hp htrigger hl hfirst => ?offers⟩
  case frame =>
    rw [heq, hu.frame]
  case stays =>
    have hstays : u.learnFrom e = u := State.learnFrom_stays (h.imp_right fun hno =>
      State.learningPosition_none (hpositions ▸ hlen) (hpositions ▸ hno))
    rw [hstays]
    exact ⟨hpositions, hcandidates⟩
  case offers =>
    have hlp : u.learningPosition = some p := State.learningPosition_first hp (by rw [hpos]; exact hl) fun q hq => by
      rw [hpos]
      exact hfirst q hq
    have hfound : findCandidate id u.join.candidates = some c := by rw [hcandidates]; exact findCandidate_split hid hothers
    have hleft : removeCandidate c.id u.join.candidates = older ++ younger := by
      rw [hcandidates, hid]
      exact removeCandidate_split hid hothers
    rw [State.learnFrom_offers htrigger hlp hfound]
    refine ⟨hleft, ?_⟩
    show u.positions.set p _ = _
    rw [hpositions, hpos, hseq, hid]
    rfl

end Sys2Proof.Machine

/-! PROOF. The offers of a beacon that has been sent: each own offer whose position still stands as the beacon showed it has one
beacon less. -/

namespace Sys2Proof.Machine

/-! ## Counting offers (R52) -/

/-- The record with one beacon less in its offer record (R52). -/
def Position.offerCounted (r : Position) : Position :=
  { r with offer := r.offer.map (fun f => ⟨f.remaining - 1, f.candidate⟩) }

theorem Position.offerCounted_none {r : Position} (h : r.offer = none) : r.offerCounted = r := by
  cases r
  simp_all [Position.offerCounted]

theorem State.countOffer_pos (s : State) (o : OfferEntry) (q : Nat) :
    (s.countOffer o).pos q =
      if o.isOffer = true ∧ o.slot - 1 = q ∧ s.offeredInBeacon (s.pos q) o.id = true then (s.pos q).offerCounted else s.pos q := by
  unfold State.countOffer
  dsimp only
  split
  case h_1 f hf =>
    by_cases hc : (o.isOffer && s.offeredInBeacon (s.pos (o.slot - 1)) o.id) = true
    · rw [if_pos hc, State.setPos_pos]
      rw [Bool.and_eq_true] at hc
      by_cases hq : q = o.slot - 1
      · subst hq
        have hlt : o.slot - 1 < s.positions.length := by
          by_contra hle
          rw [State.pos_of_le (Nat.not_lt.mp hle)] at hf
          cases hf
        rw [if_pos ⟨rfl, hlt⟩, if_pos ⟨hc.1, rfl, hc.2⟩, Position.offerCounted, hf]
        rfl
      · rw [if_neg (fun h => hq h.1), if_neg (fun h => hq h.2.1.symm)]
    · rw [if_neg hc, if_neg]
      rintro ⟨hown, rfl, hin⟩
      exact hc (by rw [hown, hin]; rfl)
  case h_2 hnone =>
    split
    · rename_i h
      rw [Position.offerCounted_none (by rw [← h.2.1]; exact hnone)]
    · rfl

/-- Offers with distinct own slots are counted once each (R52). -/
theorem State.countOffers_pos (os : List OfferEntry) (q : Nat) :
    ∀ s : State, (∀ o ∈ os, 1 ≤ o.slot) → (os.filter (fun o => o.isOffer)).Pairwise (fun x y => x.slot ≠ y.slot) →
      (s.countOffers os).pos q =
        if ∃ o ∈ os, o.isOffer = true ∧ o.slot = q + 1 ∧ s.offeredInBeacon (s.pos q) o.id = true then (s.pos q).offerCounted
        else s.pos q := by
  induction os with
  | nil => intro s _ _; rw [if_neg (by simp)]; rfl
  | cons o os ih =>
    intro s hslot hpair
    have hone : 1 ≤ o.slot := hslot o (by simp)
    have htail : ∀ x ∈ os, 1 ≤ x.slot := fun x hx => hslot x (by simp [hx])
    have hrest : (os.filter (fun o => o.isOffer)).Pairwise (fun x y => x.slot ≠ y.slot) :=
      hpair.sublist ((List.sublist_cons_self o os).filter _)
    have hstep : s.countOffers (o :: os) = (s.countOffer o).countOffers os := rfl
    rw [hstep, ih (s.countOffer o) htail hrest, State.countOffer_pos]
    have hframe : ∀ r id, (s.countOffer o).offeredInBeacon r id = s.offeredInBeacon r id := by
      intro r id
      rw [State.countOffer_eq]
      rfl
    simp only [hframe]
    by_cases hc : o.isOffer = true ∧ o.slot - 1 = q ∧ s.offeredInBeacon (s.pos q) o.id = true
    · rw [if_pos hc]
      obtain ⟨hown, hq, hin⟩ := hc
      have hno : ¬∃ x ∈ os, x.isOffer = true ∧ x.slot = q + 1 ∧ s.offeredInBeacon (s.pos q).offerCounted x.id = true := by
        rintro ⟨x, hx, hxown, hxslot, -⟩
        rw [List.filter_cons_of_pos hown, List.pairwise_cons] at hpair
        exact hpair.1 x (List.mem_filter.mpr ⟨hx, hxown⟩) (by omega)
      have hyes : ∃ x ∈ o :: os, x.isOffer = true ∧ x.slot = q + 1 ∧ s.offeredInBeacon (s.pos q) x.id = true :=
        ⟨o, by simp, hown, by omega, hin⟩
      rw [if_neg hno, if_pos hyes]
    · rw [if_neg hc]
      refine if_congr ⟨?_, ?_⟩ rfl rfl
      · rintro ⟨x, hx, h⟩
        exact ⟨x, by simp [hx], h⟩
      · rintro ⟨x, hx, hown, hxslot, hin⟩
        rcases List.mem_cons.mp hx with rfl | hx
        · exact absurd ⟨hown, by omega, hin⟩ hc
        · exact ⟨x, hx, hown, hxslot, hin⟩

theorem State.offeredInBeacon_iff (s : State) (r : Position) (id : SensorId) :
    s.offeredInBeacon r id = true ↔ r.state = .offered ∧ r.sensorId = some id ∧ r.stateEntry ≠ s.seq.frameNumber := by
  simp [State.offeredInBeacon, Position.holds, and_assoc]

/-- Settles O35. -/
theorem beaconSentCountsItsOffers : Obligations.BeaconSentCountsItsOffers := by
  unfold Obligations.BeaconSentCountsItsOffers
  intro s _
  have hexec : exec .beaconSent s = .next s.beaconSent := rfl
  refine ⟨fun hkey => by rw [hexec, State.beaconSent, hkey]; rfl, fun hkey b hb hslots hpair => ?_⟩
  let left : State := { s with seq := { s.seq with txKey := false, txData := [] } }
  have hsent : s.beaconSent = left.countOffers b.offers := by
    rw [State.beaconSent, if_pos hkey, hb]
    rfl
  refine ⟨s.beaconSent, hexec, ?_, fun p _ => ?_⟩
  · rw [hsent, State.countOffers_eq]
  · have hcount := State.countOffers_pos b.offers p left (fun o ho => (hslots o ho).1) hpair
    rw [hsent, hcount]
    have hpos : left.pos p = s.pos p := rfl
    rw [hpos]
    have hcond : (∃ o ∈ b.offers, o.isOffer = true ∧ o.slot = p + 1 ∧ left.offeredInBeacon (s.pos p) o.id = true) ↔
        ((s.pos p).state = .offered ∧ (s.pos p).stateEntry ≠ s.seq.frameNumber ∧
          ∃ o ∈ b.offers, o.isOffer = true ∧ o.slot = p + 1 ∧ (s.pos p).sensorId = some o.id) := by
      simp only [State.offeredInBeacon_iff]
      constructor
      · rintro ⟨o, ho, hown, hslot, hst, hid, hentry⟩
        exact ⟨hst, hentry, o, ho, hown, hslot, hid⟩
      · rintro ⟨hst, hentry, o, ho, hown, hslot, hid⟩
        exact ⟨o, ho, hown, hslot, hst, hid, hentry⟩
    rw [if_congr hcond rfl rfl]
    cases hoff : (s.pos p).offer with
    | none =>
      rw [Position.offerCounted_none hoff, ite_self]
    | some f =>
      refine if_congr Iff.rfl ?_ rfl
      rw [Position.offerCounted, hoff]
      rfl

end Sys2Proof.Machine

/-! PROOF. Several notices one after the other into a store with room: what stays of the entries it held, and what stands behind
them (R137, R139, R141, R143). -/

namespace Sys2Proof.Machine

/-! ## A store that shows old entries and new notices -/

/-- The store holds these entries and behind them these notices with their numbers, and an idle transmitter with no reply to send
has left none of them. -/
structure NoticeStore.Holds (kept : List Entry) (new : List (Notice × Nat)) (st : NoticeStore) : Prop where
  split : ∃ added, st.entries = kept ++ added ∧ added.map (fun e => (e.notice, e.priority)) = new
  quiet : st.transmitter = .idle → st.reply = .empty → st.entries = []

section
variable {kept : List Entry} {new : List (Notice × Nat)} {st : NoticeStore}

theorem NoticeStore.served.holds (h : st.served) : st.Holds st.entries [] :=
  ⟨⟨[], by simp, rfl⟩, fun hidle _ => h hidle⟩

theorem NoticeStore.Holds.shown_eq (h : st.Holds kept new) : st.shown = kept.map (fun e => (e.notice, e.priority)) ++ new := by
  obtain ⟨added, hes, hnew⟩ := h.split
  rw [NoticeStore.shown, hes, List.map_append, hnew]

theorem NoticeStore.Holds.length_eq (h : st.Holds kept new) : st.entries.length = kept.length + new.length := by
  obtain ⟨added, hes, hnew⟩ := h.split
  rw [hes, List.length_append, ← hnew, List.length_map]

/-- A notice that enters stands behind the others, and is sent at once only where it stands alone (R141). -/
theorem NoticeStore.Holds.enter (h : st.Holds kept new) (n : Notice) (p : Nat) :
    (st.enter n p).Holds kept (new ++ [(n, p)]) := by
  obtain ⟨added, hes, hnew⟩ := h.split
  by_cases hfree : st.transmitter = .idle ∧ st.reply = .empty
  · have hempty := h.quiet hfree.1 hfree.2
    rw [hempty] at hes
    obtain ⟨rfl, rfl⟩ := List.append_eq_nil_iff.mp hes.symm
    rw [NoticeStore.enter_empty hfree.1 hfree.2 hempty]
    exact ⟨⟨[⟨n, p, .sending⟩], rfl, by rw [← hnew]; rfl⟩, fun hidle => Transmitter.noConfusion hidle⟩
  · rw [NoticeStore.enter_of_busy hfree]
    refine ⟨⟨added ++ [⟨n, p, .waiting⟩], ?_, ?_⟩, fun hidle hreply => absurd ⟨hidle, hreply⟩ hfree⟩
    · rw [NoticeStore.withEntries_entries, hes, List.append_assoc]
    · rw [List.map_append, hnew]
      rfl

/-- A filter that drops none of the new notices (R139, R143). -/
theorem NoticeStore.Holds.filter (h : st.Holds kept new) {f : Entry → Bool}
    (hnew : ∀ e ∈ st.entries, (e.notice, e.priority) ∈ new → f e = true) :
    (st.withEntries (st.entries.filter f)).Holds (kept.filter f) new := by
  obtain ⟨added, hes, hmap⟩ := h.split
  have hall : added.filter f = added := List.filter_eq_self.mpr fun e he =>
    hnew e (by rw [hes]; exact List.mem_append_right _ he) (by rw [← hmap]; exact List.mem_map_of_mem he)
  refine ⟨⟨added, ?_, hmap⟩, fun hidle hreply => ?_⟩
  · rw [NoticeStore.withEntries_entries, hes, List.filter_append, hall]
  · rw [NoticeStore.withEntries_entries, h.quiet hidle hreply]
    rfl

/-- A withdrawal takes only old entries where it matches none of the new notices (R143). -/
theorem NoticeStore.Holds.withdraw (h : st.Holds kept new) {f : Notice → Bool} (hnew : ∀ x ∈ new, f x.1 = false) :
    (st.withdraw f).1.Holds (kept.filter (fun e => !(e.waits && f e.notice))) new :=
  h.filter fun e _ he => by simp [hnew _ he]

/-- A notice queued into a store with room replaces at most old entries and stands behind the others (R139, R141). -/
theorem NoticeStore.Holds.take (h : st.Holds kept new) {n : Notice} (hroom : st.entries.length < 8)
    (hnew : ∀ x ∈ new, x.1.isReading = false) (p : Nat) :
    (st.take n p).1.Holds (kept.filter (fun e => !n.replaces e)) (new ++ [(n, p)]) := by
  rw [(NoticeStore.take_room hroom p).2]
  refine NoticeStore.Holds.enter (h.filter fun e _ he => ?_) n p
  have hread : e.notice.isReading = false := hnew _ he
  unfold Notice.replaces
  split
  · rename_i hq
    rw [hq] at hread
    exact Bool.noConfusion hread
  · rfl

/-- A notice that is no READING notice leaves every old entry. -/
theorem NoticeStore.Holds.take_other (h : st.Holds kept new) {n : Notice} (hn : n.isReading = false)
    (hroom : st.entries.length < 8) (p : Nat) : (st.take n p).1.Holds kept (new ++ [(n, p)]) := by
  rw [(NoticeStore.take_room hroom p).2]
  have hall : ∀ es : List Entry, es.filter (fun e => !n.replaces e) = es := fun es =>
    List.filter_eq_self.mpr fun e _ => by rw [Notice.replaces_of_not_reading hn]; rfl
  rw [hall]
  exact NoticeStore.Holds.enter ⟨by exact h.split, by exact h.quiet⟩ n p

end

/-! ## Several notices -/

/-- The store after several notices were queued, one after the other. -/
def NoticeStore.takeAll (st : NoticeStore) (ns : List (Notice × Nat)) : NoticeStore :=
  ns.foldl (fun st x => (st.take x.1 x.2).1) st

section
variable {st : NoticeStore} {ns : List (Notice × Nat)}

theorem NoticeStore.takeAll_append (st : NoticeStore) (ns ms : List (Notice × Nat)) :
    st.takeAll (ns ++ ms) = (st.takeAll ns).takeAll ms := List.foldl_append

@[simp] theorem NoticeStore.takeAll_nil (st : NoticeStore) : st.takeAll [] = st := rfl

@[simp] theorem NoticeStore.takeAll_one (st : NoticeStore) (x : Notice × Nat) : st.takeAll [x] = (st.take x.1 x.2).1 := rfl

@[simp] theorem NoticeStore.takeAll_reply (st : NoticeStore) (ns : List (Notice × Nat)) : (st.takeAll ns).reply = st.reply :=
  foldl_field NoticeStore.reply (fun st (x : Notice × Nat) => (st.take x.1 x.2).1) (fun st x => st.take_reply x.1 x.2) ns st

@[simp] theorem NoticeStore.takeAll_readings (st : NoticeStore) (ns : List (Notice × Nat)) :
    (st.takeAll ns).readings = st.readings :=
  foldl_field NoticeStore.readings (fun st (x : Notice × Nat) => (st.take x.1 x.2).1) (fun st x => st.take_readings x.1 x.2) ns st

/-- Notices that are no READING notices take their places one behind the other in a store with room. -/
theorem NoticeStore.takeAll_shown (hns : ∀ x ∈ ns, x.1.isReading = false) (hroom : st.entries.length + ns.length ≤ 8) :
    (st.takeAll ns).shown = st.shown ++ ns := by
  induction ns generalizing st with
  | nil => simp
  | cons x ns ih =>
    rw [List.length_cons] at hroom
    have hx := NoticeStore.take_shown_room (st := st) (hns x (by simp)) (by omega) x.2
    have hlen : (st.take x.1 x.2).1.entries.length = st.entries.length + 1 := by
      rw [← NoticeStore.length_shown, hx, List.length_append, NoticeStore.length_shown]
      rfl
    have htail := ih (st := (st.take x.1 x.2).1) (fun y hy => hns y (by simp [hy])) (by omega)
    rw [show st.takeAll (x :: ns) = (st.take x.1 x.2).1.takeAll ns from rfl, htail, hx, List.append_assoc]
    rfl

theorem NoticeStore.Holds.takeAll {kept : List Entry} {new : List (Notice × Nat)} (h : st.Holds kept new)
    (hns : ∀ x ∈ ns, x.1.isReading = false) (hroom : st.entries.length + ns.length ≤ 8) :
    (st.takeAll ns).Holds kept (new ++ ns) := by
  induction ns generalizing st new with
  | nil => simpa using h
  | cons x ns ih =>
    rw [List.length_cons] at hroom
    have hstep := h.take_other (hns x (by simp)) (by omega) x.2
    have hlen : (st.take x.1 x.2).1.entries.length = st.entries.length + 1 := by
      have hnew := hstep.length_eq
      have hold := h.length_eq
      rw [List.length_append] at hnew
      simp only [List.length_singleton] at hnew
      omega
    have htail := ih hstep (fun y hy => hns y (by simp [hy])) (by omega)
    rwa [List.append_assoc] at htail

end

/-! ## Notices queued by the blocks -/

/-- Several notices queued one after the other. -/
def State.queueAll (s : State) (ns : List (Notice × Nat)) : State := ns.foldl (fun t x => t.queueNotice x.1 x.2) s

section
variable {s : State} {ns : List (Notice × Nat)}

theorem State.queueAll_append (s : State) (ns ms : List (Notice × Nat)) :
    s.queueAll (ns ++ ms) = (s.queueAll ns).queueAll ms := List.foldl_append

/-- What several notices move: the store, and a lost one the conditions. -/
theorem State.queueAll_spec (s : State) (ns : List (Notice × Nat)) : ∃ set : CondSet,
    (∀ d, d ≠ .noticeLost → condIn d set = condIn d s.conds.set) ∧
    s.queueAll ns = { s with store := s.store.takeAll ns, conds := { s.conds with set := set } } := by
  induction ns generalizing s with
  | nil => exact ⟨s.conds.set, fun _ _ => rfl, rfl⟩
  | cons x ns ih =>
    obtain ⟨set, hset, hq⟩ := s.queueNotice_spec x.1 x.2
    obtain ⟨set', hset', hqs⟩ := ih (s := s.queueNotice x.1 x.2)
    refine ⟨set', fun d hd => ?_, ?_⟩
    · rw [hset' d hd, hq]
      simp [hset, hd]
    · rw [show s.queueAll (x :: ns) = (s.queueNotice x.1 x.2).queueAll ns from rfl, hqs, hq]
      rfl

@[simp] theorem State.queueAll_mask (s : State) (ns : List (Notice × Nat)) : (s.queueAll ns).conds.mask = s.conds.mask := by
  obtain ⟨set, -, h⟩ := s.queueAll_spec ns
  rw [h]

/-- With room for them, several notices leave the conditions (R141). -/
theorem State.queueAll_room (hns : ∀ x ∈ ns, x.1.isReading = false) (hroom : s.store.entries.length + ns.length ≤ 8) :
    s.queueAll ns = { s with store := s.store.takeAll ns } := by
  induction ns generalizing s with
  | nil => rfl
  | cons x ns ih =>
    rw [List.length_cons] at hroom
    have hq := State.queueNotice_room (s := s) (by omega) x.1 x.2
    have hlen : (s.queueNotice x.1 x.2).store.entries.length = s.store.entries.length + 1 := by
      rw [State.queueNotice_store, ← NoticeStore.length_shown, NoticeStore.take_shown_room (hns x (by simp)) (by omega),
        List.length_append, NoticeStore.length_shown]
      rfl
    have htail := ih (s := s.queueNotice x.1 x.2) (fun y hy => hns y (by simp [hy])) (by omega)
    rw [show s.queueAll (x :: ns) = (s.queueNotice x.1 x.2).queueAll ns from rfl, htail, hq]
    rfl

end

/-! ## Positions vacated one after the other (R12) -/

/-- The store after positions were vacated one after the other, each with its notice of number 3. -/
def NoticeStore.vacated (note : Nat → Notice) (st : NoticeStore) (ps : List Nat) : NoticeStore :=
  ps.foldl (fun st p => ((st.withdraw (Notice.alarmOrReadingFor p)).1.take (note p) 3).1) st

section
variable {note : Nat → Notice} {st : NoticeStore}

theorem NoticeStore.vacated_append (note : Nat → Notice) (st : NoticeStore) (ps qs : List Nat) :
    st.vacated note (ps ++ qs) = (st.vacated note ps).vacated note qs := List.foldl_append

@[simp] theorem NoticeStore.vacated_reply (note : Nat → Notice) (st : NoticeStore) (ps : List Nat) :
    (st.vacated note ps).reply = st.reply :=
  foldl_field NoticeStore.reply (fun st p => ((st.withdraw (Notice.alarmOrReadingFor p)).1.take (note p) 3).1)
    (fun _ _ => NoticeStore.take_reply _ _ _) ps st

@[simp] theorem NoticeStore.vacated_readings (note : Nat → Notice) (st : NoticeStore) (ps : List Nat) :
    (st.vacated note ps).readings = st.readings :=
  foldl_field NoticeStore.readings (fun st p => ((st.withdraw (Notice.alarmOrReadingFor p)).1.take (note p) 3).1)
    (fun _ _ => NoticeStore.take_readings _ _ _) ps st

theorem NoticeStore.withdraw_length (st : NoticeStore) (f : Notice → Bool) :
    (st.withdraw f).1.entries.length ≤ st.entries.length := List.length_filter_le _ _

/-- In a store with room every vacated position adds at most its notice. -/
theorem NoticeStore.vacated_length {ps : List Nat} (hroom : st.entries.length + ps.length ≤ 8) :
    (st.vacated note ps).entries.length ≤ st.entries.length + ps.length := by
  induction ps generalizing st with
  | nil => exact Nat.le_add_right _ _
  | cons p ps ih =>
    rw [List.length_cons] at hroom ⊢
    have hlen := st.withdraw_length (Notice.alarmOrReadingFor p)
    have htake := (NoticeStore.take_room (st := (st.withdraw (Notice.alarmOrReadingFor p)).1) (n := note p) (by omega) 3).2
    have hone : ((st.withdraw (Notice.alarmOrReadingFor p)).1.take (note p) 3).1.entries.length ≤ st.entries.length + 1 := by
      rw [htake, NoticeStore.enter_entries_length, NoticeStore.withEntries_entries]
      have := List.length_filter_le (fun e => !(note p).replaces e) (st.withdraw (Notice.alarmOrReadingFor p)).1.entries
      omega
    have htail := ih (st := ((st.withdraw (Notice.alarmOrReadingFor p)).1.take (note p) 3).1) (by omega)
    exact htail.trans (by omega)

/-- Vacated positions take their waiting ALARM and READING notices with them, and their own notices follow in order (R12, R55). -/
theorem NoticeStore.Holds.vacated {kept : List Entry} {new : List (Notice × Nat)} {ps : List Nat} (h : st.Holds kept new)
    (hnote : ∀ p, (note p).alarmOrReading = false) (hnew : ∀ x ∈ new, ∀ p ∈ ps, x.1.alarmOrReadingFor p = false)
    (hroom : st.entries.length + ps.length ≤ 8) :
    (st.vacated note ps).Holds (kept.filter (fun e => !(e.waits && ps.any (fun p => e.notice.alarmOrReadingFor p))))
      (new ++ ps.map (fun p => (note p, 3))) := by
  have hquiet : ∀ p q, (note p).alarmOrReadingFor q = false ∧ (note p).isReading = false := by
    intro p q
    have hp := hnote p
    revert hp
    cases note p <;> simp [Notice.alarmOrReading, Notice.alarmOrReadingFor, Notice.isReading]
  induction ps generalizing st kept new with
  | nil => simpa [NoticeStore.vacated] using h
  | cons p ps ih =>
    rw [List.length_cons] at hroom
    have hlen := st.withdraw_length (Notice.alarmOrReadingFor p)
    have hstep := (h.withdraw (fun x hx => hnew x hx p (by simp))).take_other (hquiet p p).2 (by omega) 3
    have hlen' : ((st.withdraw (Notice.alarmOrReadingFor p)).1.take (note p) 3).1.entries.length ≤ st.entries.length + 1 :=
      NoticeStore.vacated_length (note := note) (ps := [p]) (by simp only [List.length_singleton]; omega)
    have htail := ih hstep (fun x hx q hq => by
      rcases List.mem_append.mp hx with hx | hx
      · exact hnew x hx q (by simp [hq])
      · obtain rfl := List.mem_singleton.mp hx
        exact (hquiet p q).1) (by omega)
    rw [List.filter_filter, List.append_assoc] at htail
    have hfilter : ∀ e : Entry, (!(e.waits && ps.any (fun p => e.notice.alarmOrReadingFor p)) &&
        !(e.waits && e.notice.alarmOrReadingFor p)) = !(e.waits && (p :: ps).any (fun p => e.notice.alarmOrReadingFor p)) := by
      intro e
      rw [List.any_cons]
      cases e.waits <;> cases e.notice.alarmOrReadingFor p <;> simp
    simp only [hfilter] at htail
    exact htail

end

end Sys2Proof.Machine

/-! PROOF. The silence check: which positions it makes MISSING, and the notices that follow (R13, R110). -/

namespace Sys2Proof.Machine

/-! ## Work on one position after the other -/

/-- Work on different positions, one after the other, carries a fact about the positions done so far. -/
theorem foldl_prefix {f : State → Nat → State} {J : List Nat → State → Prop}
    (hstep : ∀ done p t, p < 32 → p ∉ done → J done t → J (done ++ [p]) (f t p)) {s : State} (hs : J [] s) :
    J allPositions (allPositions.foldl f s) := by
  have key : ∀ (ps done : List Nat) (t : State), (done ++ ps).Nodup → (∀ p ∈ ps, p < 32) → J done t →
      J (done ++ ps) (ps.foldl f t) := by
    intro ps
    induction ps with
    | nil => intro done t _ _ ht; rw [List.append_nil]; exact ht
    | cons p ps ih =>
      intro done t hnodup hlt ht
      have hp : p ∉ done := fun hmem =>
        (List.nodup_append.mp hnodup).2.2 p hmem p (by simp) rfl
      have hnext := ih (done ++ [p]) (f t p) (by rwa [List.append_assoc]) (fun q hq => hlt q (by simp [hq]))
        (hstep done p t (hlt p (by simp)) hp ht)
      rwa [List.append_assoc] at hnext
  exact key allPositions [] s allPositions_nodup (fun p hp => mem_allPositions.mp hp) hs

/-- The notices of the work done so far, and those of one position more. -/
theorem filterMap_done {α : Type} (f : Nat → Option α) (done : List Nat) (p : Nat) :
    (done ++ [p]).filterMap f = done.filterMap f ++ (f p).toList := by
  rw [List.filterMap_append, List.filterMap_cons, List.filterMap_nil]
  cases f p <;> rfl

/-! ## Notices and records are apart -/

theorem State.queueNotice_withPositions (s : State) (rs : List Position) (n : Notice) (p : Nat) :
    State.queueNotice { s with positions := rs } n p = { s.queueNotice n p with positions := rs } := by
  unfold State.queueNotice State.raiseNoticeLost
  dsimp only
  split
  · split <;> rfl
  · rfl

theorem State.queueAll_withPositions (s : State) (rs : List Position) (ns : List (Notice × Nat)) :
    State.queueAll { s with positions := rs } ns = { s.queueAll ns with positions := rs } := by
  induction ns generalizing s with
  | nil => rfl
  | cons x ns ih =>
    rw [show ∀ u : State, u.queueAll (x :: ns) = (u.queueNotice x.1 x.2).queueAll ns from fun _ => rfl,
      State.queueNotice_withPositions, ih]
    rfl

@[simp] theorem State.queueAll_positions (s : State) (ns : List (Notice × Nat)) : (s.queueAll ns).positions = s.positions := by
  obtain ⟨set, -, h⟩ := s.queueAll_spec ns
  rw [h]

@[simp] theorem State.queueAll_pos (s : State) (ns : List (Notice × Nat)) (p : Nat) : (s.queueAll ns).pos p = s.pos p :=
  State.pos_congr (s.queueAll_positions ns) p

/-- A record replaced in a state that differs in its table alone, before some notices. -/
theorem State.setPos_queueAll {s t : State} (h : t = { s with positions := t.positions }) (p : Nat) (r : Position)
    (ns : List (Notice × Nat)) :
    (t.setPos p r).queueAll ns = { s.queueAll ns with positions := ((t.setPos p r).queueAll ns).positions } := by
  obtain ⟨rs, rfl⟩ : ∃ rs, t = { s with positions := rs } := ⟨_, h⟩
  rw [State.queueAll_positions]
  exact State.queueAll_withPositions s _ ns

/-- An ALARM notice as the class lets it be queued (R115). -/
theorem State.queueAlarm_all (s : State) (p : Nat) (k : Kind) (x : AlarmEvent) (f : FrameNo) :
    s.queueAlarm p k x f = s.queueAll (alarmOfClass (s.kinds.get k).cls
      (.alarm p k x f (s.pos p).wheel.coldGauge (s.pos p).wheel.temperature)).toList := by
  rw [State.queueAlarm_eq, alarmOfClass]
  split <;> rfl

/-! ## A position becomes MISSING (R13, R110) -/

/-- The record of a position that becomes MISSING in a frame (R13, R110). -/
def Position.madeMissing (frame : FrameNo) (r : Position) : Position :=
  { r with
    state := .missing, stateEntry := frame
    alarms := if (r.alarms.get .missing).active then r.alarms else r.alarms.put .missing ⟨true, true, 0⟩ }

/-- The notice of a position's MISSING kind, where the position becomes MISSING and the kind becomes active (R111, R115). -/
def State.missingNotice (s : State) (p : Nat) : Option (Notice × Nat) :=
  if s.fallsSilent p && !((s.pos p).alarms.get .missing).active then
    alarmOfClass (s.kinds.get .missing).cls
      (.alarm p .missing .raised s.seq.frameNumber (s.pos p).wheel.coldGauge (s.pos p).wheel.temperature)
  else none

theorem State.silenceNotices_eq (s : State) : s.silenceNotices = allPositions.filterMap s.missingNotice := rfl

theorem alarmOfClass_some {cls : Fin 3} {n : Notice} {x : Notice × Nat} (h : alarmOfClass cls n = some x) : x.1 = n := by
  unfold alarmOfClass at h
  split at h
  · cases h
  · exact (congrArg Prod.fst (Option.some.inj h)).symm

/-- A silence notice is the ALARM of a position that falls silent. -/
theorem State.mem_silenceNotices {s : State} {x : Notice × Nat} (h : x ∈ s.silenceNotices) :
    ∃ p k e f c t, x.1 = .alarm p k e f c t ∧ s.fallsSilent p = true := by
  obtain ⟨p, -, hp⟩ := List.mem_filterMap.mp (s.silenceNotices_eq ▸ h)
  unfold State.missingNotice at hp
  split at hp
  · rename_i hsilent
    exact ⟨p, _, _, _, _, _, alarmOfClass_some hp, (Bool.and_eq_true_iff.mp hsilent).1⟩
  · cases hp

theorem State.silenceNotices_not_reading {s : State} {x : Notice × Nat} (h : x ∈ s.silenceNotices) : x.1.isReading = false := by
  obtain ⟨p, k, e, f, c, t, hx, -⟩ := State.mem_silenceNotices h
  rw [hx]
  rfl

theorem State.fallsSilent_eq (s : State) (p : Nat) :
    s.fallsSilent p = silent s.seq.frameNumber s.seq.silenceLimit (s.pos p) := by
  unfold State.fallsSilent silent age
  cases (s.pos p).state <;> cases (s.pos p).wheel.lastHeard <;> rfl

theorem State.fallsSilent_iff (s : State) (p : Nat) : s.fallsSilent p = true ↔
    ((s.pos p).state = .active ∧ ∃ f, (s.pos p).wheel.lastHeard = some f ∧ s.seq.silenceLimit ≤ (s.seq.frameNumber - f).toNat) ∨
      ((s.pos p).state = .assigned ∧ s.seq.silenceLimit ≤ (s.seq.frameNumber - (s.pos p).stateEntry).toNat) := by
  unfold State.fallsSilent
  cases (s.pos p).state <;> cases (s.pos p).wheel.lastHeard <;> simp

theorem State.fallsSilent_state {s : State} {p : Nat} (h : s.fallsSilent p = true) :
    (s.pos p).state = .active ∨ (s.pos p).state = .assigned := silent_heard (s.fallsSilent_eq p ▸ h)

/-- A position that becomes MISSING moves its record and queues the notice of its kind (R13, R110). -/
theorem State.becomeMissing_all {s : State} {p : Nat} (h : s.fallsSilent p = true) :
    s.becomeMissing p =
      (s.setPos p (Position.madeMissing s.seq.frameNumber (s.pos p))).queueAll (s.missingNotice p).toList := by
  have hp : p < s.positions.length := State.lt_of_state_ne_absent (by rcases State.fallsSilent_state h with h | h <;> rw [h] <;> decide)
  unfold State.becomeMissing State.missingNotice Position.madeMissing
  rw [h]
  cases hact : ((s.pos p).alarms.get .missing).active with
  | true => rfl
  | false =>
    simp only [Bool.false_eq_true, if_false, Bool.not_false, Bool.and_self, if_true]
    rw [State.becomeActive, State.queueAlarm_all, State.setAlarm_wheel, State.setAlarm, State.setPos_pos_self hp]
    have hset : ∀ r r' : Position, (s.setPos p r).setPos p r' = s.setPos p r' := fun r r' => by
      simp only [State.setPos, List.set_set]
    rw [hset]
    rfl

/-! ## The check of all positions -/

/-- What the silence check has done when it has come past some positions. -/
structure State.SilenceChecked (s : State) (done : List Nat) (t : State) : Prop where
  frame : t = { s.queueAll (done.filterMap s.missingNotice) with positions := t.positions }
  pos : ∀ q, t.pos q = if q ∈ done ∧ s.fallsSilent q = true then Position.madeMissing s.seq.frameNumber (s.pos q) else s.pos q

theorem State.SilenceChecked.step {s t : State} {done : List Nat} {p : Nat} (hp : p ∉ done) (h : s.SilenceChecked done t) :
    s.SilenceChecked (done ++ [p])
      (if silent s.seq.frameNumber s.seq.silenceLimit (t.pos p) then t.becomeMissing p else t) := by
  obtain ⟨set, -, hq⟩ := s.queueAll_spec (done.filterMap s.missingNotice)
  have hframe := h.frame
  have hseq : t.seq = s.seq := by rw [hframe, hq]
  have hkinds : t.kinds = s.kinds := by rw [hframe, hq]
  have hold : t.pos p = s.pos p := by rw [h.pos, if_neg (fun hc => hp hc.1)]
  rw [hold, ← s.fallsSilent_eq]
  by_cases hs : s.fallsSilent p = true
  · rw [if_pos hs]
    have hts : t.fallsSilent p = true := by rw [t.fallsSilent_eq, hold, hseq, ← s.fallsSilent_eq, hs]
    have hnotice : t.missingNotice p = s.missingNotice p := by
      unfold State.missingNotice
      rw [hts, hs, hold, hseq, hkinds]
    have hpos := h.pos
    rw [State.becomeMissing_all hts, hnotice, hseq, hold]
    refine ⟨?_, fun q => ?_⟩
    · rw [filterMap_done, State.queueAll_append]
      exact State.setPos_queueAll hframe p _ _
    · have hlen : p < t.positions.length :=
        State.lt_of_state_ne_absent (by rcases State.fallsSilent_state hts with h | h <;> rw [h] <;> decide)
      rw [State.queueAll_pos, State.setPos_pos, hpos]
      by_cases hqp : q = p
      · subst hqp
        rw [if_pos ⟨rfl, hlen⟩, if_pos ⟨by simp, hs⟩]
      · rw [if_neg (fun hc => hqp hc.1)]
        simp [hqp]
  · have hnone : s.missingNotice p = none := by
      unfold State.missingNotice
      rw [Bool.eq_false_iff.mpr hs]
      rfl
    rw [if_neg hs]
    refine ⟨?_, fun q => ?_⟩
    · rw [filterMap_done, hnone, Option.toList_none, List.append_nil]
      exact hframe
    · rw [h.pos]
      by_cases hqp : q = p
      · subst hqp
        simp [hs]
      · simp [hqp]

/-- The silence check, whole: the records of the silent positions, the notices in position index order, and LAMP (R13, R110,
R123). -/
theorem State.silenceCheck_eq (s : State) :
    s.silenceCheck = { s.queueAll s.silenceNotices with positions := s.silenceCheck.positions, lamp := s.silenceCheck.lampRule } ∧
    ∀ p < 32, s.silenceCheck.pos p =
      if s.fallsSilent p then Position.madeMissing s.seq.frameNumber (s.pos p) else s.pos p := by
  have hchecked : s.SilenceChecked allPositions (allPositions.foldl (fun t p =>
      if silent s.seq.frameNumber s.seq.silenceLimit (t.pos p) then t.becomeMissing p else t) s) :=
    foldl_prefix (fun done p t _ hp h => h.step hp) ⟨rfl, fun q => by simp⟩
  unfold State.silenceCheck
  rw [State.silenceNotices_eq]
  generalize (allPositions.foldl _ s) = t at hchecked
  refine ⟨?_, fun p hp => ?_⟩
  · obtain ⟨rs, rfl⟩ : ∃ rs, t = { s.queueAll (allPositions.filterMap s.missingNotice) with positions := rs } :=
      ⟨_, hchecked.frame⟩
    rfl
  · have hpos := hchecked.pos p
    rw [State.judgeLamp_pos, hpos]
    simp [mem_allPositions.mpr hp]

/-- Settles O36: the row makes the check, whose effect on records and store is known. -/
theorem silenceCheckMakesMissing : Obligations.SilenceCheckMakesMissing := by
  unfold Obligations.SilenceCheckMakesMissing
  intro s _
  have hrow : exec .silenceCheck s = .next (if s.usualFrameEnd then s.silenceCheck else s) := rfl
  refine ⟨fun h => ?idle, fun hm ht hp => ⟨s.silenceCheck, ?row, ?frame, ?reply, ?readings, ?mask, fun hroom => ?notices,
    fun p hp => ?records⟩⟩
  case idle =>
    have hno : ¬s.usualFrameEnd = true := by
      rw [s.usualFrameEnd_eq_true_iff]
      tauto
    rw [hrow, if_neg hno]
  case row => rw [hrow, if_pos (s.usualFrameEnd_eq_true_iff.mpr ⟨hm, ht, hp⟩)]
  all_goals
    obtain ⟨heq, hpos⟩ := s.silenceCheck_eq
    obtain ⟨set, -, hq⟩ := s.queueAll_spec s.silenceNotices
    generalize s.silenceCheck = t at heq hpos
  case frame =>
    have hstore := congrArg State.store heq
    have hconds := congrArg State.conds heq
    rw [hstore, hconds]
    conv_lhs => rw [heq]
    rw [hq]
  case reply => rw [heq, hq]; exact NoticeStore.takeAll_reply _ _
  case readings => rw [heq, hq]; exact NoticeStore.takeAll_readings _ _
  case mask => rw [heq, hq]
  case notices =>
    have hns : ∀ x ∈ s.silenceNotices, x.1.isReading = false := fun _ => State.silenceNotices_not_reading
    rw [heq, State.queueAll_room hns hroom]
    exact ⟨rfl, NoticeStore.takeAll_shown hns hroom⟩
  case records =>
    intro r isSilent
    have hiff := s.fallsSilent_iff p
    refine ⟨fun hno => by rw [hpos p hp, if_neg (fun h => hno (hiff.mp h))], fun hyes => ?_⟩
    rw [hpos p hp, if_pos (hiff.mpr hyes)]
    refine ⟨rfl, fun k hk => ?_, ?_⟩
    · unfold Position.madeMissing
      dsimp only
      split
      · rfl
      · rw [PerKind.get_put, if_neg hk]
    · unfold Position.madeMissing
      dsimp only
      split
      · rfl
      · rw [PerKind.get_put, if_pos rfl]

end Sys2Proof.Machine

/-! PROOF. Positions that are vacated one after the other with a notice each, as the frame end's expiries and a change to CONFIG do
(R12, R48, R54, R55). -/

namespace Sys2Proof.Machine

/-! ## One position (R12, R48) -/

/-- A position is vacated, its notice queued, and the candidate of its offer returned. -/
def State.vacateOne (s : State) (note : Notice) (back : Option Offer) (p : Nat) : State :=
  ((s.enterEmpty p .vacant).queueNotice note 3).returnCandidate back

theorem State.condIn_returnCandidate {s : State} {d : Condition} (h : condIn d s.conds.set = true) (o : Option Offer) :
    condIn d (s.returnCandidate o).conds.set = true := by
  cases o with
  | none => exact h
  | some f =>
    rcases Nat.lt_or_ge s.join.candidates.length 8 with hroom | hfull
    · rw [State.returnCandidate, State.appendCandidate_room hroom]
      exact h
    · obtain ⟨-, lost, hset⟩ := s.raise_conds .candidateOverrun
      rw [State.returnCandidate, State.appendCandidate_full hfull, hset, h, Bool.true_or, Bool.true_or]

theorem State.condIn_queueNotice {s : State} {d : Condition} (h : condIn d s.conds.set = true) (n : Notice) (p : Nat) :
    condIn d (s.queueNotice n p).conds.set = true := by
  obtain ⟨set, hset, hq⟩ := s.queueNotice_spec n p
  rw [hq]
  exact (hset d).trans (by rw [h, Bool.true_or])

section
variable {s : State} {p : Nat} {note : Notice} {back : Option Offer}

/-- What a vacated position moves: its record, its engine mark, LAMP, and what its notice and its candidate move. -/
theorem State.vacateOne_eq (hp : p < 32) : s.vacateOne note back p = { s with
    positions := s.positions.set p (Position.emptied .vacant s.seq.frameNumber)
    join := { s.join with candidates := (s.vacateOne note back p).join.candidates }
    engine := s.engine.voidedFor (fun q => q == p), lamp := (s.setPos p (Position.emptied .vacant s.seq.frameNumber)).lampRule
    conds := (s.vacateOne note back p).conds, store := (s.vacateOne note back p).store } := by
  unfold State.vacateOne
  have hvacated := State.enterEmpty_eq s hp .vacant
  have hqueued := State.queueNotice_eq (s.enterEmpty p .vacant) note 3
  generalize (s.enterEmpty p .vacant).queueNotice note 3 = u at hqueued
  have hreturned := State.returnCandidate_eq u back
  generalize u.returnCandidate back = t at hreturned
  obtain ⟨cs, st, conds, rfl⟩ : ∃ cs st conds, t = { u with join := { u.join with candidates := cs }, store := st, conds := conds } :=
    ⟨_, _, _, hreturned⟩
  obtain ⟨st', conds', rfl⟩ : ∃ st conds, u = { s.enterEmpty p .vacant with store := st, conds := conds } := ⟨_, _, hqueued⟩
  rw [hvacated]

theorem State.vacateOne_pos (q : Nat) : (s.vacateOne note back p).pos q =
    if q = p ∧ p < s.positions.length then Position.emptied .vacant s.seq.frameNumber else s.pos q := by
  rw [State.vacateOne, State.returnCandidate_pos, State.queueNotice_pos, State.enterEmpty_pos]

theorem State.vacateOne_lamp (hp : p < 32) : (s.vacateOne note back p).lamp = (s.vacateOne note back p).lampRule := by
  have heq := State.vacateOne_eq (s := s) (note := note) (back := back) hp
  generalize s.vacateOne note back p = t at heq
  have hrule := State.lampRule_congr (s := s.setPos p (Position.emptied .vacant s.seq.frameNumber)) (t := t)
    (by rw [heq]; rfl) (by rw [heq]; rfl) (by rw [heq]; rfl) (by rw [heq]; rfl)
  rw [hrule, heq]

theorem State.returnCandidate_reply (s : State) (o : Option Offer) : (s.returnCandidate o).store.reply = s.store.reply := by
  rcases s.returnCandidate_store_cases o with h | h <;> rw [h]
  exact State.raise_reply _ _

theorem State.vacateOne_reply : (s.vacateOne note back p).store.reply = s.store.reply := by
  rw [State.vacateOne, State.returnCandidate_reply, State.queueNotice_store, NoticeStore.take_reply]
  rfl

theorem State.vacateOne_readings : (s.vacateOne note back p).store.readings = s.store.readings := by
  rw [State.vacateOne, State.returnCandidate_readings, State.queueNotice_store, NoticeStore.take_readings]
  rfl

theorem State.vacateOne_mask : (s.vacateOne note back p).conds.mask = s.conds.mask := by
  rw [State.vacateOne, State.returnCandidate_conds_mask, State.queueNotice_mask]
  rfl

theorem State.vacateOne_join : ((s.enterEmpty p .vacant).queueNotice note 3).join = s.join := by
  rw [State.queueNotice_eq]
  rfl

/-- The returned candidate stands behind the others where there is room (R48). -/
theorem State.vacateOne_candidates : (s.vacateOne note back p).join.candidates =
    s.join.candidates ++ (back.map Offer.candidate).toList.take (8 - s.join.candidates.length) := by
  have hjoin := State.vacateOne_join (s := s) (p := p) (note := note)
  rw [State.vacateOne]
  generalize (s.enterEmpty p .vacant).queueNotice note 3 = u at hjoin
  rw [← hjoin]
  cases back with
  | none => simp [State.returnCandidate]
  | some f =>
    rcases Nat.lt_or_ge u.join.candidates.length 8 with hroom | hfull
    · rw [State.returnCandidate, State.appendCandidate_room hroom, List.take_of_length_le (by simp; omega)]
      rfl
    · rw [State.returnCandidate, State.appendCandidate_full hfull, State.raise_join, Nat.sub_eq_zero_of_le hfull, List.take_zero,
        List.append_nil]

/-- A condition that was set stays set. -/
theorem State.condIn_vacateOne {d : Condition} (h : condIn d s.conds.set = true) :
    condIn d (s.vacateOne note back p).conds.set = true :=
  State.condIn_returnCandidate (State.condIn_queueNotice (s := s.enterEmpty p .vacant) h _ _) _

/-- A candidate that meets a full list raises CANDIDATE_OVERRUN (R48). -/
theorem State.vacateOne_overrun {f : Offer} (hf : back = some f) (hfull : 8 ≤ s.join.candidates.length) :
    condIn .candidateOverrun (s.vacateOne note back p).conds.set = true := by
  have hjoin := State.vacateOne_join (s := s) (p := p) (note := note)
  rw [State.vacateOne, hf]
  generalize (s.enterEmpty p .vacant).queueNotice note 3 = u at hjoin
  obtain ⟨-, lost, hset⟩ := u.raise_conds .candidateOverrun
  rw [State.returnCandidate, State.appendCandidate_full (by rw [hjoin]; exact hfull), hset, beq_self_eq_true, Bool.or_true,
    Bool.true_or]

/-- With room for the notice and the candidate, only the notices move the store, and no condition changes. -/
theorem State.vacateOne_room (hback : back = none ∨ s.join.candidates.length < 8) (hroom : s.store.entries.length < 8) :
    (s.vacateOne note back p).conds = s.conds ∧
      (s.vacateOne note back p).store = ((s.store.withdraw (Notice.alarmOrReadingFor p)).1.take note 3).1 := by
  have hlen := s.store.withdraw_length (Notice.alarmOrReadingFor p)
  have hq := State.queueNotice_room (s := s.enterEmpty p .vacant)
    (show ((s.store.withdraw (Notice.alarmOrReadingFor p)).1.entries.length < 8) by omega) note 3
  have hret : s.vacateOne note back p =
      { (s.enterEmpty p .vacant).queueNotice note 3 with join := (s.vacateOne note back p).join } := by
    have hjoin := State.vacateOne_join (s := s) (p := p) (note := note)
    rw [State.vacateOne]
    generalize (s.enterEmpty p .vacant).queueNotice note 3 = u at hjoin
    cases back with
    | none => rfl
    | some f =>
      have hlt := hback.resolve_left (Option.some_ne_none f)
      rw [State.returnCandidate, State.appendCandidate_room (by rw [hjoin]; exact hlt)]
  rw [hret, hq]
  exact ⟨rfl, rfl⟩

end

/-! ## Several positions, one after the other -/

/-- The candidates that the vacated ones of some positions return. -/
def candidatesBack (gone : Nat → Bool) (back : Nat → Option Offer) (ps : List Nat) : List Candidate :=
  ps.filterMap (fun p => if gone p then (back p).map Offer.candidate else none)

/-- What the vacating of some positions has done when it has come past the positions `done`. -/
structure State.VacatedPast (s : State) (gone : Nat → Bool) (note : Nat → Notice) (back : Nat → Option Offer) (done : List Nat)
    (t : State) : Prop where
  frame : t = { s with
    positions := t.positions, join := { s.join with candidates := t.join.candidates }
    engine := s.engine.voidedFor (fun p => decide (p ∈ done) && gone p), lamp := t.lamp, store := t.store, conds := t.conds }
  lamp : t.lamp = if done.any gone then t.lampRule else s.lamp
  pos : ∀ q, t.pos q = if q ∈ done ∧ gone q = true then Position.emptied .vacant s.seq.frameNumber else s.pos q
  length : t.positions.length = s.positions.length
  reply : t.store.reply = s.store.reply
  readings : t.store.readings = s.store.readings
  mask : t.conds.mask = s.conds.mask
  candidates : t.join.candidates =
    s.join.candidates ++ (candidatesBack gone back done).take (8 - s.join.candidates.length)
  overrun : 8 < (s.join.candidates ++ candidatesBack gone back done).length → candidatesBack gone back done ≠ [] →
    condIn .candidateOverrun t.conds.set = true
  room : candidatesBack gone back done = [] ∨ (s.join.candidates ++ candidatesBack gone back done).length ≤ 8 →
    s.store.entries.length + (done.filter gone).length ≤ 8 → t.conds = s.conds ∧ t.store = s.store.vacated note (done.filter gone)

section
variable {s t : State} {gone : Nat → Bool} {note : Nat → Notice} {back : Nat → Option Offer} {done : List Nat} {p : Nat}

theorem State.VacatedPast.refl : s.VacatedPast gone note back [] s where
  frame := by simp [Engine.voidedFor_none]
  lamp := rfl
  pos := fun q => by simp
  length := rfl
  reply := rfl
  readings := rfl
  mask := rfl
  candidates := by simp [candidatesBack]
  overrun := fun _ h => absurd rfl h
  room := fun _ _ => ⟨rfl, rfl⟩

theorem candidatesBack_done : candidatesBack gone back (done ++ [p]) =
    candidatesBack gone back done ++ (if gone p then (back p).map Offer.candidate else none).toList := filterMap_done _ _ _

/-- A position that stays. -/
theorem State.VacatedPast.pass (h : s.VacatedPast gone note back done t) (hp : gone p = false) :
    s.VacatedPast gone note back (done ++ [p]) t := by
  have hback : candidatesBack gone back (done ++ [p]) = candidatesBack gone back done := by
    rw [candidatesBack_done, hp]
    exact List.append_nil _
  have hfilter : (done ++ [p]).filter gone = done.filter gone := by simp [hp]
  have hmem : ∀ q, (q ∈ done ++ [p] ∧ gone q = true) ↔ (q ∈ done ∧ gone q = true) := fun q => by
    by_cases hq : q = p
    · simp [hq, hp]
    · simp [hq]
  have hengine : (fun q => decide (q ∈ done ++ [p]) && gone q) = fun q => decide (q ∈ done) && gone q := funext fun q => by
    rw [Bool.eq_iff_iff]
    simpa using hmem q
  refine ⟨?_, ?_, fun q => ?_, h.length, h.reply, h.readings, h.mask, ?_, ?_, ?_⟩
  · rw [hengine]
    exact h.frame
  · rw [List.any_append, List.any_cons, hp]
    simpa using h.lamp
  · rw [h.pos, if_congr (hmem q) rfl rfl]
  · rw [hback]
    exact h.candidates
  · rw [hback]
    exact h.overrun
  · rw [hback, hfilter]
    exact h.room

/-- A position that is vacated. -/
theorem State.VacatedPast.vacate (h : s.VacatedPast gone note back done t) (hp : gone p = true) (hlt : p < 32)
    (hlen : p < s.positions.length) : s.VacatedPast gone note back (done ++ [p]) (t.vacateOne (note p) (back p) p) := by
  have hback : candidatesBack gone back (done ++ [p]) = candidatesBack gone back done ++ ((back p).map Offer.candidate).toList := by
    rw [candidatesBack_done, hp]
    rfl
  have hfilter : (done ++ [p]).filter gone = done.filter gone ++ [p] := by simp [hp]
  have hseq : t.seq = s.seq := by rw [h.frame]
  have heq := State.vacateOne_eq (s := t) (note := note p) (back := back p) hlt
  have hcandidates := State.vacateOne_candidates (s := t) (note := note p) (back := back p) (p := p)
  refine ⟨?frame, ?lamp, fun q => ?pos, ?length, State.vacateOne_reply.trans h.reply, State.vacateOne_readings.trans h.readings,
    State.vacateOne_mask.trans h.mask, ?candidates, ?overrun, ?room⟩
  case frame =>
    have hengine : t.engine.voidedFor (fun q => q == p) = s.engine.voidedFor (fun q => decide (q ∈ done ++ [p]) && gone q) := by
      have ht : t.engine = s.engine.voidedFor (fun q => decide (q ∈ done) && gone q) := congrArg State.engine h.frame
      rw [ht, Engine.voidedFor_or]
      refine congrArg _ (funext fun q => ?_)
      by_cases hq : q = p
      · simp [hq, hp]
      · simp [hq]
    rw [← hengine]
    generalize t.vacateOne (note p) (back p) p = u at heq
    have hlamp := congrArg State.lamp heq
    have hpositions := congrArg State.positions heq
    rw [hlamp, hpositions]
    conv_lhs => rw [heq]
    obtain ⟨rs, cs, l, st, cond, rfl⟩ : ∃ rs cs l st cond, t = { s with
        positions := rs, join := { s.join with candidates := cs }
        engine := s.engine.voidedFor (fun p => decide (p ∈ done) && gone p), lamp := l, store := st, conds := cond } :=
      ⟨_, _, _, _, _, h.frame⟩
    rfl
  case lamp =>
    rw [List.any_append, List.any_cons, hp, Bool.true_or, Bool.or_true, if_pos rfl]
    exact State.vacateOne_lamp hlt
  case pos =>
    rw [State.vacateOne_pos, h.length, h.pos, hseq]
    by_cases hq : q = p
    · rw [if_pos ⟨hq, hlen⟩, if_pos ⟨by simp [hq], hq ▸ hp⟩]
    · rw [if_neg (fun hc => hq hc.1)]
      simp [hq]
  case length =>
    rw [heq]
    simpa using h.length
  case candidates =>
    rw [hcandidates, h.candidates, hback, List.append_assoc, List.take_append]
    simp only [List.length_append, List.length_take]
    congr 3
    omega
  case overrun =>
    intro hmany hany
    rw [hback] at hmany hany
    by_cases hbefore : 8 < (s.join.candidates ++ candidatesBack gone back done).length ∧ candidatesBack gone back done ≠ []
    · exact State.condIn_vacateOne (h.overrun hbefore.1 hbefore.2)
    · cases hf : back p with
      | none =>
        rw [hf, Option.map_none, Option.toList_none, List.append_nil] at hmany hany
        exact absurd ⟨hmany, hany⟩ hbefore
      | some f =>
        refine hf ▸ State.vacateOne_overrun hf ?_
        rw [h.candidates]
        rw [hf] at hmany
        simp only [List.length_append, Option.map_some, Option.toList_some, List.length_singleton, List.length_take] at hmany ⊢
        by_cases hnil : candidatesBack gone back done = []
        · rw [hnil] at hmany ⊢
          simp only [List.length_nil] at hmany
          omega
        · have hle := not_and_not_right.mp hbefore
          omega
  case room =>
    intro hfew hstore
    rw [hback] at hfew
    rw [hfilter] at hstore ⊢
    rw [List.length_append, List.length_singleton] at hstore
    obtain ⟨hconds, hst⟩ := h.room (by
      rw [List.append_eq_nil_iff] at hfew
      refine hfew.imp And.left fun hlen => ?_
      simp only [List.length_append] at hlen ⊢
      omega) (by omega)
    have hlength := NoticeStore.vacated_length (note := note) (st := s.store) (ps := done.filter gone) (by omega)
    rw [← hst] at hlength
    obtain ⟨hconds', hst'⟩ := State.vacateOne_room (s := t) (note := note p) (back := back p) (p := p) (by
      cases hf : back p with
      | none => exact .inl rfl
      | some f =>
        right
        have hlen := hfew.resolve_left (by simp [hf])
        rw [hf] at hlen
        simp only [List.length_append, Option.map_some, Option.toList_some, List.length_singleton] at hlen
        rw [h.candidates, List.length_append, List.length_take]
        omega) (by omega)
    refine ⟨hconds'.trans hconds, ?_⟩
    rw [hst', hst, NoticeStore.vacated_append]
    rfl

/-- The vacating of several positions in position index order. -/
theorem State.vacateAll (hgone : ∀ p, gone p = true → p < s.positions.length) {f : State → Nat → State}
    (hf : ∀ t p, p < 32 → t.pos p = s.pos p → t.seq = s.seq → f t p = if gone p then t.vacateOne (note p) (back p) p else t) :
    s.VacatedPast gone note back allPositions (allPositions.foldl f s) := by
  refine foldl_prefix (fun done p t hlt hp h => ?_) .refl
  have hpos : t.pos p = s.pos p := by rw [h.pos, if_neg (fun hc => hp hc.1)]
  rw [hf t p hlt hpos (by rw [h.frame])]
  cases hc : gone p with
  | true => exact h.vacate hc hlt (hgone p hc)
  | false => exact h.pass hc

end

end Sys2Proof.Machine

/-! PROOF. The join controller's work at a frame end: the offers and learns that run out, the learns counted down, and the
candidates that return (R48, R49, R55). -/

namespace Sys2Proof.Machine

/-! ## What the expiries say (R55) -/

/-- The BIND notice of an offer that runs out (R55 step 2). -/
def State.offerNote (s : State) (p : Nat) : Notice := .bind p (s.pos p).sensorId .failedTimeout

/-- The BIND notice of a learn that runs out (R55 step 3). -/
def learnNote (p : Nat) : Notice := .bind p none .failedTimeout

theorem State.offerNotices_eq (s : State) : s.offerNotices = (allPositions.filter s.offerEnds).map (fun p => (s.offerNote p, 3)) := rfl

theorem State.learnNotices_eq (s : State) : s.learnNotices = (allPositions.filter s.learnEnds).map (fun p => (learnNote p, 3)) := rfl

theorem State.returned_eq (s : State) : s.returned = candidatesBack s.offerEnds (fun p => (s.pos p).offer) allPositions := rfl

theorem State.offerEnds_eq (s : State) (p : Nat) :
    s.offerEnds p = ((s.joinWork == .due || s.joinWork == .agedOut) && offerOver (s.pos p)) :=
  Bool.and_assoc _ _ _

theorem State.learnEnds_eq (s : State) (p : Nat) : s.learnEnds p = (s.joinWork != .learnsCounted && learnOver (s.pos p)) :=
  Bool.and_assoc _ _ _

theorem State.offerEnds_offered {s : State} {p : Nat} (h : s.offerEnds p = true) : (s.pos p).state = .offered :=
  offerOver_offered (Bool.and_eq_true_iff.mp (s.offerEnds_eq p ▸ h)).2

theorem State.learnEnds_learning {s : State} {p : Nat} (h : s.learnEnds p = true) : (s.pos p).state = .learning :=
  learnOver_learning (Bool.and_eq_true_iff.mp (s.learnEnds_eq p ▸ h)).2

/-! ## The steps of R55, one after the other -/

/-- The age-out is made at this frame end, by this step or before it (R49, R55 step 1). -/
theorem State.joinToAgeOut_eq (s : State) : s.joinToAgeOut =
    { s with joinWork := if s.joinWork = .due then .agedOut else s.joinWork, join := { s.join with candidates := s.young } } := by
  unfold State.joinToAgeOut State.joinStep State.young
  split
  · rfl
  · rfl

/-- Nothing vacated. -/
theorem State.VacatedPast.none {s : State} {gone : Nat → Bool} {note : Nat → Notice} {back : Nat → Option Offer}
    (h : ∀ p, gone p = false) (ps : List Nat) : s.VacatedPast gone note back ps s := by
  induction ps using List.reverseRecOn with
  | nil => exact .refl
  | append_singleton ps p ih => exact ih.pass (h p)

/-- The offer expiries are made at this frame end, by this step or before it (R55 step 2). -/
theorem State.joinToOffers_past (s : State) : ∃ t,
    s.joinToAgeOut.VacatedPast s.offerEnds s.offerNote (fun p => (s.pos p).offer) allPositions t ∧
    s.joinToOffers = { t with joinWork := if s.joinWork = .learnsCounted then .learnsCounted else .offersExpired } := by
  have haged := s.joinToAgeOut_eq
  have hpos : ∀ p, s.joinToAgeOut.pos p = s.pos p := fun p => State.pos_congr (by rw [haged]) p
  by_cases hdue : s.joinWork = .due ∨ s.joinWork = .agedOut
  · have hwork : s.joinToAgeOut.joinWork = .agedOut := by
      rw [haged]
      rcases hdue with h | h <;> simp [h]
    have hcounted : s.joinWork ≠ .learnsCounted := by
      rcases hdue with h | h <;> rw [h] <;> decide
    refine ⟨s.joinToAgeOut.expireOffers, ?_, ?_⟩
    · refine State.vacateAll (fun p hp => State.lt_of_state_ne_absent ?_) (fun t p _ ht _ => ?_)
      · rw [hpos, State.offerEnds_offered hp]
        decide
      · have hend : s.offerEnds p = offerOver (t.pos p) := by
          rw [s.offerEnds_eq, ht, hpos]
          rcases hdue with h | h <;> rw [h] <;> rfl
        rw [hend, State.expireOffer, State.offerNote, ← hpos p, ← ht]
        rfl
    · rw [if_neg hcounted, State.joinToOffers, State.joinStep, if_pos hwork]
  · have hnone : ∀ p, s.offerEnds p = false := fun p => by
      rw [s.offerEnds_eq]
      cases hw : s.joinWork <;> simp_all
    have hwork : s.joinToAgeOut.joinWork ≠ .agedOut := by
      rw [haged]
      dsimp only
      rw [if_neg (fun h => hdue (.inl h))]
      exact fun h => hdue (.inr h)
    refine ⟨s.joinToAgeOut, .none hnone _, ?_⟩
    rw [State.joinToOffers, State.joinStep, if_neg hwork, haged, if_neg (fun h => hdue (.inl h))]
    have hlast : (if s.joinWork = .learnsCounted then JoinWork.learnsCounted else .offersExpired) = s.joinWork := by
      cases hw : s.joinWork <;> simp_all
    rw [hlast]

/-- The learns are counted at this frame end, by this step or before it (R55 step 3). -/
theorem State.joinFrameEnd_past (s : State) : ∃ t,
    s.joinToOffers.VacatedPast s.learnEnds learnNote (fun _ => none) allPositions t ∧
    s.joinFrameEnd = { t with
      positions := if s.joinWork = .learnsCounted then t.positions else t.positions.map Position.countLearn
      joinWork := .learnsCounted } := by
  obtain ⟨o, hpast, heq⟩ := s.joinToOffers_past
  have hwork : s.joinToOffers.joinWork = if s.joinWork = .learnsCounted then .learnsCounted else .offersExpired := by rw [heq]
  have hpos : ∀ p, s.joinToOffers.pos p = o.pos p := fun p => State.pos_congr (by rw [heq]) p
  by_cases hcounted : s.joinWork = .learnsCounted
  · have hnone : ∀ p, s.learnEnds p = false := fun p => by
      rw [s.learnEnds_eq, hcounted]
      rfl
    rw [if_pos hcounted] at hwork
    refine ⟨s.joinToOffers, .none hnone _, ?_⟩
    rw [if_pos hcounted, State.joinFrameEnd, State.joinStep, if_neg (by rw [hwork]; decide), ← hwork]
  · rw [if_neg hcounted] at hwork
    have hover : ∀ p, p < 32 → s.learnEnds p = learnOver (s.joinToOffers.pos p) := fun p hp => by
      rw [hpos, hpast.pos, s.learnEnds_eq]
      have hne : (s.joinWork != .learnsCounted) = true := bne_iff_ne.mpr hcounted
      rw [hne, Bool.true_and]
      by_cases hgone : s.offerEnds p = true
      · rw [if_pos ⟨mem_allPositions.mpr hp, hgone⟩]
        cases hl : learnOver (s.pos p) with
        | false => rfl
        | true => exact absurd ((State.offerEnds_offered hgone).symm.trans (learnOver_learning hl)) (by decide)
      · rw [if_neg (fun h => hgone h.2)]
        exact congrArg learnOver (State.pos_congr (by rw [s.joinToAgeOut_eq]) p).symm
    refine ⟨s.joinToOffers.expireLearns, ?_, ?_⟩
    · refine State.vacateAll (fun p hp => State.lt_of_state_ne_absent ?_) (fun t p hp ht _ => ?_)
      · have hoffer : s.offerEnds p = false := by
          cases ho : s.offerEnds p with
          | false => rfl
          | true => exact absurd ((State.offerEnds_offered ho).symm.trans (State.learnEnds_learning hp)) (by decide)
        have hkept : s.joinToOffers.pos p = s.pos p := by
          rw [hpos, hpast.pos, if_neg (fun h => Bool.false_ne_true (hoffer.symm.trans h.2))]
          exact State.pos_congr (by rw [s.joinToAgeOut_eq]) p
        rw [hkept, State.learnEnds_learning hp]
        decide
      · rw [hover p hp, ht]
        rfl
    · rw [if_neg hcounted, State.joinFrameEnd, State.joinStep, if_pos hwork, State.countLearns]

/-! ## The work, whole -/

/-- The void mark looks at the table's positions only (R76). -/
theorem Engine.voidedFor_all (e : Engine) (gone : Nat → Bool) :
    e.voidedFor (fun p => decide (p ∈ allPositions) && gone p) = e.voidedFor gone := by
  cases e with
  | idle => rfl
  | busy w =>
    have hslot : (decide (1 ≤ w.entry.slot ∧ w.entry.slot ≤ 32) && (decide (w.entry.slot - 1 ∈ allPositions) && gone (w.entry.slot - 1))) =
        (decide (1 ≤ w.entry.slot ∧ w.entry.slot ≤ 32) && gone (w.entry.slot - 1)) := by
      by_cases h : 1 ≤ w.entry.slot ∧ w.entry.slot ≤ 32
      · rw [decide_eq_true (mem_allPositions.mpr (by omega)), Bool.true_and]
      · rw [decide_eq_false h, Bool.false_and, Bool.false_and]
    simp only [Engine.voidedFor, Bool.and_assoc, hslot]

/-- A table of the same length with the same sub-records. -/
theorem State.map_alarms_congr {s t : State} (hlen : t.positions.length = s.positions.length)
    (h : ∀ p, (t.pos p).alarms = (s.pos p).alarms) : t.positions.map Position.alarms = s.positions.map Position.alarms := by
  refine List.ext_getElem (by simpa using hlen) fun i h1 h2 => ?_
  have ht : i < t.positions.length := by simpa using h1
  have hs : i < s.positions.length := by simpa using h2
  have hi := h i
  simp only [State.pos, List.getD_eq_getElem?_getD, List.getElem?_eq_getElem ht, List.getElem?_eq_getElem hs] at hi
  simpa using hi

/-- What the join controller's work has done by the end of a frame (R49, R55). -/
structure State.JoinEnded (s t : State) : Prop where
  frame : t = { s with
    positions := t.positions, join := { s.join with candidates := t.join.candidates }
    engine := s.engine.voidedFor (fun p => s.offerEnds p || s.learnEnds p), lamp := t.lamp, store := t.store, conds := t.conds
    joinWork := .learnsCounted }
  lamp : t.lamp = if allPositions.any (fun p => s.offerEnds p || s.learnEnds p) then t.lampRule else s.lamp
  pos : ∀ p < 32, t.pos p =
    if s.offerEnds p || s.learnEnds p then Position.emptied .vacant s.seq.frameNumber else s.learnCounted p
  length : t.positions.length = s.positions.length
  reply : t.store.reply = s.store.reply
  readings : t.store.readings = s.store.readings
  mask : t.conds.mask = s.conds.mask
  candidates : t.join.candidates = s.young ++ s.returned.take (8 - s.young.length)
  room : s.returned = [] ∨ (s.young ++ s.returned).length ≤ 8 → s.store.entries.length + s.offerNotices.length + s.learnNotices.length ≤ 8 →
    t.conds = s.conds ∧ t.store = (s.store.vacated s.offerNote (allPositions.filter s.offerEnds)).vacated learnNote
      (allPositions.filter s.learnEnds)

theorem Position.countLearn_eq {s : State} {p : Nat} (h : s.joinWork ≠ .learnsCounted) :
    s.learnCounted p = (s.pos p).countLearn := by
  have hne : (s.joinWork != .learnsCounted) = true := bne_iff_ne.mpr h
  unfold State.learnCounted Position.countLearn
  rw [hne, Bool.true_and]
  generalize s.pos p = r
  obtain ⟨state, id, entry, wheel, offer, learn, alarms⟩ := r
  cases state <;> cases learn <;> rfl

theorem State.pos_countLearn (t : State) (w : JoinWork) (p : Nat) :
    State.pos { t with positions := t.positions.map Position.countLearn, joinWork := w } p = (t.pos p).countLearn := by
  simp only [State.pos, List.getD_eq_getElem?_getD, List.getElem?_map]
  cases t.positions[p]? <;> rfl

theorem State.joinFrameEnd_ended (s : State) : s.JoinEnded s.joinFrameEnd := by
  obtain ⟨o, hoffers, hjo⟩ := s.joinToOffers_past
  obtain ⟨t, hlearns, hje⟩ := s.joinFrameEnd_past
  have haged := s.joinToAgeOut_eq
  have hagedPos : ∀ p, s.joinToAgeOut.pos p = s.pos p := fun p => State.pos_congr (by rw [haged]) p
  have hoPos : ∀ p, s.joinToOffers.pos p = o.pos p := fun p => State.pos_congr (by rw [hjo]) p
  have hoRule : s.joinToOffers.lampRule = o.lampRule :=
    State.lampRule_congr (by rw [hjo]) (by rw [hjo]) (by rw [hjo]) (by rw [hjo])
  have hoStore : s.joinToOffers.store = o.store := by rw [hjo]
  have hoConds : s.joinToOffers.conds = o.conds := by rw [hjo]
  have hoJoin : s.joinToOffers.join = o.join := by rw [hjo]
  have haStore : s.joinToAgeOut.store = s.store := by rw [haged]
  have haConds : s.joinToAgeOut.conds = s.conds := by rw [haged]
  have haJoin : s.joinToAgeOut.join.candidates = s.young := by rw [haged]
  have hoSeq : o.seq = s.seq := by rw [hoffers.frame, haged]
  have hnoBack : ∀ ps, candidatesBack s.learnEnds (fun _ => none) ps = [] := fun ps =>
    List.filterMap_eq_nil_iff.mpr fun p _ => by split <;> rfl
  have htPos : ∀ p, s.joinFrameEnd.pos p = if s.joinWork = .learnsCounted then t.pos p else (t.pos p).countLearn := by
    intro p
    rw [hje]
    by_cases hc : s.joinWork = .learnsCounted
    · simp only [hc, if_true]
      rfl
    · simp only [hc, if_false]
      exact State.pos_countLearn t .learnsCounted p
  have htLength : s.joinFrameEnd.positions.length = t.positions.length := by
    rw [hje]
    dsimp only
    split
    · rfl
    · exact List.length_map _
  have htAlarms : s.joinFrameEnd.positions.map Position.alarms = t.positions.map Position.alarms :=
    State.map_alarms_congr htLength fun p => by
      rw [htPos]
      split
      · rfl
      · exact Position.countLearn_alarms _
  have htRule : s.joinFrameEnd.lampRule = t.lampRule :=
    State.lampRule_congr (by rw [hje]) (by rw [hje]) (by rw [hje]) htAlarms
  refine ⟨?frame, ?lamp, fun p hp => ?pos, ?length, ?reply, ?readings, ?mask, ?candidates, fun hfew hroom => ?room⟩
  case frame =>
    have hengine : s.joinFrameEnd.engine = s.engine.voidedFor (fun p => s.offerEnds p || s.learnEnds p) := by
      have hlearn : t.engine = s.joinToOffers.engine.voidedFor (fun p => decide (p ∈ allPositions) && s.learnEnds p) :=
        congrArg State.engine hlearns.frame
      have hoffer : o.engine = s.joinToAgeOut.engine.voidedFor (fun p => decide (p ∈ allPositions) && s.offerEnds p) :=
        congrArg State.engine hoffers.frame
      have hkeep : s.joinFrameEnd.engine = t.engine := by rw [hje]
      have hkeep' : s.joinToOffers.engine = o.engine := by rw [hjo]
      have hkeep'' : s.joinToAgeOut.engine = s.engine := by rw [haged]
      rw [hkeep, hlearn, hkeep', hoffer, hkeep'', Engine.voidedFor_all, Engine.voidedFor_all, Engine.voidedFor_or]
    rw [← hengine]
    generalize s.joinFrameEnd = u at hje
    generalize s.joinToOffers = j at hjo hlearns
    generalize s.joinToAgeOut = a at haged hoffers
    obtain ⟨rs, cs, e, l, st, cd, rfl⟩ : ∃ rs cs e l st cd, t = { j with
        positions := rs, join := { j.join with candidates := cs }, engine := e, lamp := l, store := st, conds := cd } :=
      ⟨_, _, _, _, _, _, hlearns.frame⟩
    obtain ⟨rs', cs', e', l', st', cd', rfl⟩ : ∃ rs cs e l st cd, o = { a with
        positions := rs, join := { a.join with candidates := cs }, engine := e, lamp := l, store := st, conds := cd } :=
      ⟨_, _, _, _, _, _, hoffers.frame⟩
    rw [hje, hjo, haged]
  case lamp =>
    have hlamp : s.joinFrameEnd.lamp = t.lamp := by rw [hje]
    have hlampo : s.joinToOffers.lamp = o.lamp := by rw [hjo]
    have hlampa : s.joinToAgeOut.lamp = s.lamp := by rw [haged]
    have hor : allPositions.any (fun p => s.offerEnds p || s.learnEnds p) =
        (allPositions.any s.offerEnds || allPositions.any s.learnEnds) := by
      induction allPositions with
      | nil => rfl
      | cons p ps ih =>
        rw [List.any_cons, List.any_cons, List.any_cons, ih]
        cases s.offerEnds p <;> cases s.learnEnds p <;> simp
    rw [hor, hlamp, htRule, hlearns.lamp, hlampo, hoffers.lamp, hlampa]
    cases hl : allPositions.any s.learnEnds with
    | true => simp
    | false =>
      have hsame : t.lampRule = o.lampRule := by
        have hnone : ∀ p ∈ allPositions, s.learnEnds p = false := by simpa using hl
        have hrule : t.lampRule = s.joinToOffers.lampRule :=
          State.lampRule_congr (by rw [hlearns.frame]) (by rw [hlearns.frame]) (by rw [hlearns.frame])
            (State.map_alarms_congr hlearns.length fun p => by
              rw [hlearns.pos, if_neg (fun h => Bool.false_ne_true ((hnone p h.1).symm.trans h.2))])
        rw [hrule, hoRule]
      cases allPositions.any s.offerEnds <;> simp [hsame]
  case pos =>
    have hseqt : s.joinToOffers.seq = s.seq := by rw [hjo]; exact hoSeq
    have hmem := mem_allPositions.mpr hp
    have hseqa : s.joinToAgeOut.seq = s.seq := by rw [haged]
    have hvalue : t.pos p =
        if s.offerEnds p || s.learnEnds p then Position.emptied .vacant s.seq.frameNumber else s.pos p := by
      rw [hlearns.pos, hoPos, hoffers.pos, hagedPos, hseqt, hseqa]
      cases hl : s.learnEnds p <;> cases ho : s.offerEnds p <;> simp [hmem]
    rw [htPos, hvalue]
    cases (s.offerEnds p || s.learnEnds p) with
    | true => exact ite_self _
    | false =>
      by_cases hc : s.joinWork = .learnsCounted
      · exact (if_pos hc).trans (by unfold State.learnCounted; rw [hc]; rfl)
      · exact (if_neg hc).trans (Position.countLearn_eq hc).symm
  case length =>
    have holen : s.joinToOffers.positions.length = o.positions.length := by rw [hjo]
    have halen : s.joinToAgeOut.positions.length = s.positions.length := by rw [haged]
    rw [htLength, hlearns.length, holen, hoffers.length, halen]
  case reply =>
    have hkeep : s.joinFrameEnd.store = t.store := by rw [hje]
    rw [hkeep, hlearns.reply, hoStore, hoffers.reply, haStore]
  case readings =>
    have hkeep : s.joinFrameEnd.store = t.store := by rw [hje]
    rw [hkeep, hlearns.readings, hoStore, hoffers.readings, haStore]
  case mask =>
    have hkeep : s.joinFrameEnd.conds = t.conds := by rw [hje]
    rw [hkeep, hlearns.mask, hoConds, hoffers.mask, haConds]
  case candidates =>
    have hkeep : s.joinFrameEnd.join = t.join := by rw [hje]
    rw [hkeep, hlearns.candidates, hnoBack, List.take_nil, List.append_nil, hoJoin, hoffers.candidates, haJoin, s.returned_eq]
  case room =>
    have hkeep : s.joinFrameEnd.conds = t.conds ∧ s.joinFrameEnd.store = t.store := by rw [hje]; exact ⟨rfl, rfl⟩
    rw [s.offerNotices_eq, s.learnNotices_eq, List.length_map, List.length_map] at hroom
    obtain ⟨hoc, host⟩ := hoffers.room (by rw [haJoin, ← s.returned_eq]; exact hfew) (by rw [haStore]; omega)
    rw [haStore] at host
    have hlen := NoticeStore.vacated_length (note := s.offerNote) (st := s.store) (ps := allPositions.filter s.offerEnds) (by omega)
    obtain ⟨htc, htst⟩ := hlearns.room (.inl (hnoBack _)) (by rw [hoStore, host]; omega)
    exact ⟨hkeep.1.trans (htc.trans (hoConds.trans (hoc.trans haConds))), by rw [hkeep.2, htst, hoStore, host]⟩

end Sys2Proof.Machine

/-! PROOF. The rows OFFER_EXPIRY and LEARN_EXPIRY: what the expiries leave in the store, and the two rows' own parts of a frame end
(R55). -/

namespace Sys2Proof.Machine

/-! ## The store after the expiries (R12, R55) -/

/-- The entry is a waiting ALARM or READING notice of one of some positions (R12, R143). -/
def Entry.leavesWith (gone : Nat → Bool) (e : Entry) : Bool :=
  e.waits && allPositions.any (fun p => gone p && e.notice.alarmOrReadingFor p)

theorem NoticeStore.entriesWithout_eq (st : NoticeStore) (gone : Nat → Bool) :
    st.entriesWithout gone = st.entries.filter (fun e => !e.leavesWith gone) := rfl

/-- What leaves with one of two sets of positions. -/
theorem Entry.leavesWith_or (f g : Nat → Bool) (e : Entry) :
    (!e.leavesWith g && !e.leavesWith f) = !e.leavesWith (fun p => f p || g p) := by
  have hany : allPositions.any (fun p => (f p || g p) && e.notice.alarmOrReadingFor p) =
      (allPositions.any (fun p => f p && e.notice.alarmOrReadingFor p) ||
        allPositions.any (fun p => g p && e.notice.alarmOrReadingFor p)) := by
    induction allPositions with
    | nil => rfl
    | cons p ps ih =>
      rw [List.any_cons, List.any_cons, List.any_cons, ih]
      cases f p <;> cases g p <;> cases e.notice.alarmOrReadingFor p <;> simp
  unfold Entry.leavesWith
  rw [hany]
  cases e.waits <;> simp [Bool.and_comm]

/-- The positions vacated take their waiting notices with them, and their own follow (R12, R55). -/
theorem NoticeStore.Holds.vacateGone {st : NoticeStore} {kept : List Entry} {new : List (Notice × Nat)} {gone : Nat → Bool}
    {note : Nat → Notice} (h : st.Holds kept new) (hnote : ∀ p, (note p).alarmOrReading = false)
    (hnew : ∀ x ∈ new, ∀ p, gone p = true → x.1.alarmOrReadingFor p = false)
    (hroom : st.entries.length + (allPositions.filter gone).length ≤ 8) :
    (st.vacated note (allPositions.filter gone)).Holds (kept.filter (fun e => !e.leavesWith gone))
      (new ++ (allPositions.filter gone).map (fun p => (note p, 3))) := by
  have hvacated := h.vacated hnote (fun x hx p hp => hnew x hx p (List.mem_filter.mp hp).2) hroom
  simp only [List.any_filter] at hvacated
  exact hvacated

theorem bind_not_alarmOrReadingFor {x : Notice × Nat} {gone : Nat → Bool} {note : Nat → Notice} {f : Nat → Notice × Nat}
    (hf : ∀ p, (f p).1 = note p) (hnote : ∀ p, (note p).alarmOrReading = false)
    (hx : x ∈ (allPositions.filter gone).map f) (q : Nat) : x.1.alarmOrReadingFor q = false := by
  obtain ⟨p, -, rfl⟩ := List.mem_map.mp hx
  rw [hf]
  have hp := hnote p
  revert hp
  cases note p <;> simp [Notice.alarmOrReading, Notice.alarmOrReadingFor]

/-- With room in the store, the expiries' notices stand behind those that stay, the offers' before the learns' (R55). -/
theorem State.JoinEnded.holds {s t : State} (h : s.JoinEnded t) {kept : List Entry} {new : List (Notice × Nat)}
    (hst : s.store.Holds kept new)
    (hnew : ∀ x ∈ new, ∀ p, (s.offerEnds p || s.learnEnds p) = true → x.1.alarmOrReadingFor p = false)
    (hfew : s.returned = [] ∨ (s.young ++ s.returned).length ≤ 8)
    (hroom : s.store.entries.length + s.offerNotices.length + s.learnNotices.length ≤ 8) :
    t.conds = s.conds ∧ t.store.Holds (kept.filter (fun e => !e.leavesWith (fun p => s.offerEnds p || s.learnEnds p)))
      (new ++ (s.offerNotices ++ s.learnNotices)) := by
  obtain ⟨hconds, hstore⟩ := h.room hfew hroom
  rw [s.offerNotices_eq, s.learnNotices_eq, List.length_map, List.length_map] at hroom
  have hlen := NoticeStore.vacated_length (note := s.offerNote) (st := s.store) (ps := allPositions.filter s.offerEnds) (by omega)
  have hoffers := hst.vacateGone (gone := s.offerEnds) (note := s.offerNote) (fun _ => rfl)
    (fun x hx p hp => hnew x hx p (by rw [hp, Bool.true_or])) (by omega)
  have hlearns := hoffers.vacateGone (gone := s.learnEnds) (note := learnNote) (fun _ => rfl) (fun x hx p hp => by
    rcases List.mem_append.mp hx with hx | hx
    · exact hnew x hx p (by rw [hp, Bool.or_true])
    · exact bind_not_alarmOrReadingFor (note := s.offerNote) (fun _ => rfl) (fun _ => rfl) hx p) (by omega)
  rw [List.filter_filter, List.append_assoc] at hlearns
  simp only [Entry.leavesWith_or] at hlearns
  exact ⟨hconds, hstore ▸ hlearns⟩

/-! ## The records (R55) -/

theorem State.offerEnds_iff {s : State} (hdue : s.joinWork = .due ∨ s.joinWork = .agedOut) (p : Nat) :
    s.offerEnds p = true ↔ (s.pos p).state = .offered ∧ ∃ f, (s.pos p).offer = some f ∧ f.remaining = 0 := by
  have hwork : (s.joinWork == .due || s.joinWork == .agedOut) = true := by rcases hdue with h | h <;> rw [h] <;> rfl
  rw [s.offerEnds_eq, hwork, Bool.true_and]
  unfold offerOver
  cases (s.pos p).offer <;> simp

theorem State.offerEnds_past {s : State} (h : s.joinWork = .offersExpired ∨ s.joinWork = .learnsCounted) (p : Nat) :
    s.offerEnds p = false := by
  rw [s.offerEnds_eq]
  rcases h with h | h <;> rw [h] <;> rfl

theorem State.returned_past {s : State} (h : s.joinWork = .offersExpired ∨ s.joinWork = .learnsCounted) : s.returned = [] :=
  List.filterMap_eq_nil_iff.mpr fun p _ => by rw [State.offerEnds_past h]; rfl

theorem State.young_past {s : State} (h : s.joinWork ≠ .due) : s.young = s.join.candidates := if_neg h

/-- The candidates as the list of capacity eight. -/
theorem take_eight {young back : List Candidate} (h : young.length ≤ 8) :
    young ++ back.take (8 - young.length) = (young ++ back).take 8 := by
  rw [List.take_append, List.take_of_length_le h]

theorem State.young_length (s : State) : s.young.length ≤ s.join.candidates.length := by
  unfold State.young
  split
  · exact List.length_filter_le _ _
  · exact Nat.le_refl _

theorem State.joinToOffers_made {s : State} (h : s.joinWork = .offersExpired ∨ s.joinWork = .learnsCounted) :
    s.joinToOffers = s := by
  have haged : s.joinToAgeOut = s := if_neg (by rcases h with h | h <;> rw [h] <;> decide)
  rw [State.joinToOffers, haged]
  exact if_neg (by rcases h with h | h <;> rw [h] <;> decide)

theorem State.joinFrameEnd_made {s : State} (h : s.joinWork = .learnsCounted) : s.joinFrameEnd = s := by
  rw [State.joinFrameEnd, State.joinToOffers_made (.inr h)]
  exact if_neg (by rw [h]; decide)

/-- A row made ahead of the last part of a frame end's work leaves that part as it was. -/
theorem State.joinFrameEnd_joinToOffers (s : State) : s.joinToOffers.joinFrameEnd = s.joinFrameEnd := by
  conv_lhs => rw [State.joinFrameEnd, State.joinToOffers_made s.joinToOffers_joinWork]
  rfl

theorem State.joinToOffers_usual (s : State) : s.joinToOffers.usualFrameEnd = s.usualFrameEnd := by
  obtain ⟨t, hpast, heq⟩ := s.joinToOffers_past
  rw [heq]
  unfold State.usualFrameEnd
  dsimp only
  rw [hpast.frame, s.joinToAgeOut_eq]

/-- What the expiries of offers have done by the end of a frame (R48, R49, R55). -/
structure State.OffersEnded (s t : State) : Prop where
  frame : t = { s with
    positions := t.positions, join := { s.join with candidates := t.join.candidates }
    engine := s.engine.voidedFor s.offerEnds, lamp := if allPositions.any s.offerEnds then t.lampRule else s.lamp
    store := t.store, conds := t.conds, joinWork := .offersExpired }
  pos : ∀ p < 32, t.pos p = if s.offerEnds p then Position.emptied .vacant s.seq.frameNumber else s.pos p
  reply : t.store.reply = s.store.reply
  readings : t.store.readings = s.store.readings
  mask : t.conds.mask = s.conds.mask
  candidates : t.join.candidates = s.young ++ s.returned.take (8 - s.young.length)
  overrun : 8 < (s.young ++ s.returned).length → s.returned ≠ [] → condIn .candidateOverrun t.conds.set = true
  room : (s.young ++ s.returned).length ≤ 8 → s.store.entries.length + (allPositions.filter s.offerEnds).length ≤ 8 →
    t.conds = s.conds ∧ t.store = s.store.vacated s.offerNote (allPositions.filter s.offerEnds)

theorem State.joinToOffers_ended {s : State} (hdue : s.joinWork = .due ∨ s.joinWork = .agedOut) :
    s.OffersEnded s.joinToOffers := by
  obtain ⟨t, hpast, heq⟩ := s.joinToOffers_past
  have hcounted : s.joinWork ≠ .learnsCounted := by rcases hdue with h | h <;> rw [h] <;> decide
  rw [if_neg hcounted] at heq
  have haged := s.joinToAgeOut_eq
  have hagedPos : ∀ p, s.joinToAgeOut.pos p = s.pos p := fun p => State.pos_congr (by rw [haged]) p
  have hagedSeq : s.joinToAgeOut.seq = s.seq := by rw [haged]
  have hagedStore : s.joinToAgeOut.store = s.store := by rw [haged]
  have hagedConds : s.joinToAgeOut.conds = s.conds := by rw [haged]
  have hagedLamp : s.joinToAgeOut.lamp = s.lamp := by rw [haged]
  have hagedJoin : s.joinToAgeOut.join.candidates = s.young := by rw [haged]
  have hstore : s.joinToOffers.store = t.store := by rw [heq]
  have hconds : s.joinToOffers.conds = t.conds := by rw [heq]
  have hrule : s.joinToOffers.lampRule = t.lampRule :=
    State.lampRule_congr (by rw [heq]) (by rw [heq]) (by rw [heq]) (by rw [heq])
  refine ⟨?frame, fun p hp => ?pos, ?reply, ?readings, ?mask, ?candidates, fun hmany hany => ?overrun, fun hfew hroom => ?room⟩
  case frame =>
    have hlamp : (if allPositions.any s.offerEnds then s.joinToOffers.lampRule else s.lamp) = t.lamp := by
      rw [hpast.lamp, hrule, hagedLamp]
    have hengine : t.engine = s.engine.voidedFor s.offerEnds := by
      have ht : t.engine = s.joinToAgeOut.engine.voidedFor (fun p => decide (p ∈ allPositions) && s.offerEnds p) :=
        congrArg State.engine hpast.frame
      rw [ht, Engine.voidedFor_all, haged]
    rw [hlamp, ← hengine]
    generalize s.joinToOffers = u at heq
    generalize s.joinToAgeOut = a at haged hpast
    obtain ⟨rs, cs, e, l, st, cd, rfl⟩ : ∃ rs cs e l st cd, t = { a with
        positions := rs, join := { a.join with candidates := cs }, engine := e, lamp := l, store := st, conds := cd } :=
      ⟨_, _, _, _, _, _, hpast.frame⟩
    rw [heq, haged]
  case pos =>
    have hkeep : s.joinToOffers.pos p = t.pos p := State.pos_congr (by rw [heq]) p
    rw [hkeep, hpast.pos, hagedPos, hagedSeq]
    simp [mem_allPositions.mpr hp]
  case reply => rw [hstore, hpast.reply, hagedStore]
  case readings => rw [hstore, hpast.readings, hagedStore]
  case mask => rw [hconds, hpast.mask, hagedConds]
  case candidates =>
    have hkeep : s.joinToOffers.join = t.join := by rw [heq]
    rw [hkeep, hpast.candidates, hagedJoin, s.returned_eq]
  case overrun =>
    rw [hconds]
    exact hpast.overrun (by rw [hagedJoin]; exact hmany) hany
  case room =>
    obtain ⟨hc, hst⟩ := hpast.room (.inr (by rw [hagedJoin]; exact hfew)) (by rw [hagedStore]; exact hroom)
    exact ⟨hconds.trans (hc.trans hagedConds), hstore.trans (hst.trans (by rw [hagedStore]))⟩

theorem State.learnEnds_iff {s : State} (h : s.joinWork ≠ .learnsCounted) (p : Nat) :
    s.learnEnds p = true ↔ (s.pos p).state = .learning ∧ ∃ n, (s.pos p).learn = some n ∧ n ≤ 1 := by
  have hne : (s.joinWork != .learnsCounted) = true := bne_iff_ne.mpr h
  rw [s.learnEnds_eq, hne, Bool.true_and]
  unfold learnOver
  cases (s.pos p).learn <;> simp

/-- The record after a frame end's countdown of learns (R55 step 3). -/
theorem State.learnSettled_eq {s : State} (h : s.joinWork ≠ .learnsCounted) (p : Nat) :
    (if s.learnEnds p then Position.emptied .vacant s.seq.frameNumber else s.learnCounted p) =
      if (s.pos p).state = .learning then
        match (s.pos p).learn with
        | some n => if n ≤ 1 then Position.emptied .vacant s.seq.frameNumber else { s.pos p with learn := some (n - 1) }
        | none => s.pos p
      else s.pos p := by
  have hiff := State.learnEnds_iff h p
  rw [Position.countLearn_eq h]
  unfold Position.countLearn
  generalize s.pos p = r at hiff ⊢
  obtain ⟨state, id, entry, wheel, offer, learn, alarms⟩ := r
  cases state <;> cases learn <;> simp_all

/-- Settles O37: the rows make the parts due, and each part's effect is the vacating of the positions that ran out. -/
theorem offersAndLearnsExpire : Obligations.OffersAndLearnsExpire := by
  unfold Obligations.OffersAndLearnsExpire
  intro s _
  have hofferRow : ∀ s : State, exec .offerExpiry s = .next (if s.usualFrameEnd then s.joinToOffers else s) := fun _ => rfl
  have hlearnRow : ∀ s : State, exec .learnExpiry s = .next (if s.usualFrameEnd then s.joinFrameEnd else s) := fun _ => rfl
  refine ⟨fun h => ?idle, fun hm ht hp => ?usual⟩
  case idle =>
    have hno : ¬s.usualFrameEnd = true := by
      rw [s.usualFrameEnd_eq_true_iff]
      tauto
    rw [hofferRow, hlearnRow, if_neg hno, if_neg hno]
    exact ⟨rfl, rfl⟩
  case usual =>
    have husual := s.usualFrameEnd_eq_true_iff.mpr ⟨hm, ht, hp⟩
    refine ⟨fun hpast => ?offersPast, fun hdue => ⟨s.joinToOffers, ?offersRow, ?offers⟩, fun hpast => ?learnsPast, fun u hu => ?skip,
      fun hexpired => ⟨s.joinFrameEnd, ?learnsRow, ?learns⟩⟩
    case offersRow => rw [hofferRow, if_pos husual]
    case learnsRow => rw [hlearnRow, if_pos husual]
    case offersPast =>
      rw [hofferRow, State.joinToOffers_made hpast, ite_self]
    case learnsPast => rw [hlearnRow, State.joinFrameEnd_made hpast, ite_self]
    case skip =>
      rw [hofferRow, if_pos husual] at hu
      obtain rfl := Host.Outcome.next.inj hu
      rw [hlearnRow, hlearnRow, s.joinToOffers_usual, if_pos husual, if_pos husual, s.joinFrameEnd_joinToOffers]
    case offers =>
      have hended := State.joinToOffers_ended hdue
      generalize s.joinToOffers = t at hended
      refine ⟨hended.frame, hended.reply, hended.readings, hended.mask, fun p hp => ?_, fun hlen => ?_, hended.overrun,
        fun hfew hserved hroom => ?_⟩
      · rw [hended.pos p hp]
        exact if_congr (State.offerEnds_iff hdue p) rfl rfl
      · rw [hended.candidates, take_eight (s.young_length.trans hlen)]
      · rw [s.offerNotices_eq, List.length_map] at hroom
        obtain ⟨hconds, hstore⟩ := hended.room hfew hroom
        have hholds := hserved.holds.vacateGone (gone := s.offerEnds) (note := s.offerNote) (fun _ => rfl) (by simp) hroom
        exact ⟨hconds, by rw [hstore, hholds.shown_eq]; rfl⟩
    case learns =>
      have hended := s.joinFrameEnd_ended
      have hpast := Or.inl (b := s.joinWork = .learnsCounted) hexpired
      have hcounted : s.joinWork ≠ .learnsCounted := by rw [hexpired]; decide
      have hends : (fun p => s.offerEnds p || s.learnEnds p) = s.learnEnds := funext fun p => by
        rw [State.offerEnds_past hpast, Bool.false_or]
      have hyoung := State.young_past (s := s) (by rw [hexpired]; decide)
      have hreturned := State.returned_past hpast
      have hnotices : s.offerNotices = [] := by
        rw [s.offerNotices_eq, List.filter_eq_nil_iff.mpr fun p _ => by rw [State.offerEnds_past hpast]; decide]
        rfl
      generalize s.joinFrameEnd = t at hended
      refine ⟨?_, hended.reply, hended.readings, hended.mask, fun p hp => ?_, fun hserved hroom => ?_⟩
      · have hcandidates : t.join.candidates = s.join.candidates := by
          rw [hended.candidates, hyoung, hreturned, List.take_nil, List.append_nil]
        have hframe := hended.frame
        have hlamp := hended.lamp
        rw [hends] at hframe hlamp
        rw [hcandidates] at hframe
        rw [← hlamp]
        exact hframe
      · have hpos := hended.pos p hp
        rw [congrFun hends p] at hpos
        rw [hpos]
        exact State.learnSettled_eq hcounted p
      · obtain ⟨hconds, hholds⟩ := hended.holds hserved.holds (by simp) (.inl hreturned) (by rw [hnotices]; exact hroom)
        rw [hends, hnotices] at hholds
        exact ⟨hconds, hholds.shown_eq⟩

end Sys2Proof.Machine

/-! PROOF. A change to CONFIG at a frame end: what leaves with the pending positions, and what each block of the table does (R54, R143,
R168). -/

namespace Sys2Proof.Machine

/-! ## A store without waiting ALARM and READING notices (R143) -/

/-- No ALARM or READING notice waits. -/
def NoticeStore.Clean (st : NoticeStore) : Prop := ∀ e ∈ st.entries, e.waits = true → e.notice.alarmOrReading = false

theorem NoticeStore.mem_choose_of_waiting {st : NoticeStore} {e : Entry} (he : e ∈ st.choose.entries) (hw : e.waits = true) :
    e ∈ st.entries := by
  rcases st.choose_cases with ⟨r, _, h⟩ | ⟨_, f, hn, h⟩ | ⟨_, _, h⟩ <;> rw [h] at he
  · exact he
  · obtain ⟨older, younger, hes, -, -, -, hmark⟩ := nextWaiting_split hn
    rw [hmark] at he
    rw [hes]
    rcases List.mem_append.mp he with he | he
    · exact List.mem_append_left _ he
    · rcases List.mem_cons.mp he with rfl | he
      · cases hw
      · exact List.mem_append_right _ (List.mem_cons_of_mem _ he)
  · exact he

theorem NoticeStore.mem_enter_of_waiting {st : NoticeStore} {e : Entry} {n : Notice} {p : Nat} (he : e ∈ (st.enter n p).entries)
    (hw : e.waits = true) : e ∈ st.entries ∨ e = ⟨n, p, .waiting⟩ := by
  have hmem : e ∈ st.entries ++ [⟨n, p, .waiting⟩] := by
    rcases st.enter_cases n p with ⟨_, _, h⟩ | ⟨_, h⟩ <;> rw [h] at he
    · exact NoticeStore.mem_choose_of_waiting he hw
    · exact he
  exact (List.mem_append.mp hmem).imp_right List.mem_singleton.mp

/-- A waiting entry of a store that took a notice is an old one or the new one (R139, R141, R142). -/
theorem NoticeStore.mem_take_of_waiting {st : NoticeStore} {e : Entry} {n : Notice} {p : Nat} (he : e ∈ (st.take n p).1.entries)
    (hw : e.waits = true) : e ∈ st.entries ∨ e = ⟨n, p, .waiting⟩ := by
  have hkept : ∀ {e}, e ∈ st.entries.filter (fun e => !n.replaces e) → e ∈ st.entries := fun h => (List.mem_filter.mp h).1
  rcases st.take_cases n p with ⟨_, h⟩ | ⟨_, hlt, h⟩ | ⟨_, _, h⟩ <;> rw [h] at he
  · exact (NoticeStore.mem_enter_of_waiting he hw).imp_left hkept
  · refine (NoticeStore.mem_enter_of_waiting he hw).imp_left fun he => hkept ?_
    obtain ⟨older, f, younger, hes, -, -, -, hrem⟩ := removeYoungest_split (worstWaiting_mem (Nat.zero_lt_of_lt hlt))
    rw [NoticeStore.withEntries_entries, hrem] at he
    rw [hes]
    rcases List.mem_append.mp he with he | he
    · exact List.mem_append_left _ he
    · exact List.mem_append_right _ (List.mem_cons_of_mem _ he)
  · exact .inl (hkept he)

section
variable {st : NoticeStore}

theorem NoticeStore.Clean.take (h : st.Clean) {n : Notice} (hn : n.alarmOrReading = false) (p : Nat) : (st.take n p).1.Clean :=
  fun _ he hw => (NoticeStore.mem_take_of_waiting he hw).elim (fun he => h _ he hw) (fun he => he ▸ hn)

theorem NoticeStore.clean_withdraw (st : NoticeStore) : (st.withdraw Notice.alarmOrReading).1.Clean := fun e he hw => by
  have hkept := (List.mem_filter.mp he).2
  simpa [hw] using hkept

theorem alarmOrReadingFor_of {n : Notice} (h : n.alarmOrReading = false) (p : Nat) : n.alarmOrReadingFor p = false := by
  revert h
  cases n <;> simp [Notice.alarmOrReading, Notice.alarmOrReadingFor]

theorem isReading_of {n : Notice} (h : n.alarmOrReading = false) : n.isReading = false := by
  revert h
  cases n <;> simp [Notice.alarmOrReading, Notice.isReading]

/-- From a clean store nothing is withdrawn. -/
theorem NoticeStore.Clean.withdraw_entries (h : st.Clean) (p : Nat) :
    (st.withdraw (Notice.alarmOrReadingFor p)).1.entries = st.entries :=
  List.filter_eq_self.mpr fun e he => by
    cases hw : e.waits with
    | false => rfl
    | true => rw [alarmOrReadingFor_of (h e he hw)]; rfl

/-- Positions vacated with a clean store leave it clean; with room their notices stand behind the others. -/
theorem NoticeStore.Clean.vacated {note : Nat → Notice} (hnote : ∀ p, (note p).alarmOrReading = false) {ps : List Nat}
    (h : st.Clean) (hroom : st.entries.length + ps.length ≤ 8) :
    (st.vacated note ps).shown = st.shown ++ ps.map (fun p => (note p, 3)) := by
  induction ps generalizing st with
  | nil => exact (List.append_nil _).symm
  | cons p ps ih =>
    rw [List.length_cons] at hroom
    have hentries := h.withdraw_entries p
    have hclean : (st.withdraw (Notice.alarmOrReadingFor p)).1.Clean := fun e he hw => h e (hentries ▸ he) hw
    have hshown := NoticeStore.take_shown_room (st := (st.withdraw (Notice.alarmOrReadingFor p)).1) (isReading_of (hnote p))
      (by rw [hentries]; omega) 3
    have hsame : (st.withdraw (Notice.alarmOrReadingFor p)).1.shown = st.shown := by rw [NoticeStore.shown, hentries]; rfl
    have hlen : ((st.withdraw (Notice.alarmOrReadingFor p)).1.take (note p) 3).1.entries.length = st.entries.length + 1 := by
      rw [← NoticeStore.length_shown, hshown, hsame, List.length_append, NoticeStore.length_shown]
      rfl
    have htail := ih (hclean.take (hnote p) 3) (by omega)
    rw [hshown, hsame, List.append_assoc] at htail
    exact htail

end

/-! ## A beacon that leaves before the frame end (R25, R52) -/

theorem State.countOffers_pos_cases (os : List OfferEntry) (q : Nat) : ∀ s : State,
    (s.countOffers os).pos q = s.pos q ∨
      ((s.pos q).state = .offered ∧ ∃ o, (s.countOffers os).pos q = { s.pos q with offer := o }) := by
  induction os with
  | nil => exact fun s => .inl rfl
  | cons o os ih =>
    intro s
    have hstep : s.countOffers (o :: os) = (s.countOffer o).countOffers os := rfl
    have hone := s.countOffer_pos o q
    rw [hstep]
    split at hone
    · rename_i hc
      have hoffered := ((s.offeredInBeacon_iff _ _).mp hc.2.2).1
      refine .inr ⟨hoffered, ?_⟩
      rcases ih (s.countOffer o) with h | ⟨-, x, h⟩ <;> rw [h, hone]
      · exact ⟨_, rfl⟩
      · exact ⟨x, rfl⟩
    · rw [← hone]
      exact ih _

theorem State.countOffers_length (s : State) (os : List OfferEntry) :
    (s.countOffers os).positions.length = s.positions.length := by
  refine foldl_field (fun t : State => t.positions.length) State.countOffer (fun t o => ?_) os s
  unfold State.countOffer
  dsimp only
  split
  · split
    · simp
    · rfl
  · rfl

theorem State.beaconSent_eq (s : State) : s.beaconSent = { s with
    seq := { s.seq with txKey := false, txData := if s.seq.txKey then [] else s.seq.txData }
    positions := s.beaconSent.positions } := by
  unfold State.beaconSent
  cases hk : s.seq.txKey with
  | true =>
    simp only [if_true]
    rw [State.countOffers_eq]
  | false =>
    simp only [Bool.false_eq_true, if_false]
    rw [← hk]

theorem State.beaconSent_length (s : State) : s.beaconSent.positions.length = s.positions.length := by
  unfold State.beaconSent
  split
  · rw [State.countOffers_length]
  · rfl

/-- A beacon that leaves moves offer records of OFFERED positions alone (R52). -/
theorem State.beaconSent_pos_cases (s : State) (q : Nat) : s.beaconSent.pos q = s.pos q ∨
    ((s.pos q).state = .offered ∧ ∃ o, s.beaconSent.pos q = { s.pos q with offer := o }) := by
  unfold State.beaconSent
  split
  · exact State.countOffers_pos_cases _ q _
  · exact .inl rfl

theorem State.beaconSent_state (s : State) (q : Nat) : (s.beaconSent.pos q).state = (s.pos q).state := by
  rcases s.beaconSent_pos_cases q with h | ⟨-, o, h⟩ <;> rw [h]

theorem State.beaconSent_sensorId (s : State) (q : Nat) : (s.beaconSent.pos q).sensorId = (s.pos q).sensorId := by
  rcases s.beaconSent_pos_cases q with h | ⟨-, o, h⟩ <;> rw [h]

/-! ## The join controller at a change to CONFIG (R54) -/

/-- The BIND notice of a position that is pending at a change to CONFIG (R54). -/
def State.failedNote (s : State) (p : Nat) : Notice :=
  .bind p (if (s.pos p).state = .offered then (s.pos p).sensorId else none) .failedMode

theorem State.failBindings_past (s : State) :
    s.VacatedPast (fun p => (s.pos p).state.pendingBind) s.failedNote (fun _ => none) allPositions
      (allPositions.foldl State.failBinding s) := by
  refine State.vacateAll (fun p hp => State.lt_of_state_ne_absent fun h => ?_) (fun t p _ ht _ => ?_)
  · rw [h] at hp
    cases hp
  · unfold State.failBinding State.failedNote
    rw [ht]
    rfl

theorem State.configTable_pos {s : State} {q : Nat} (hq : q < s.positions.length) :
    s.configTable.pos q = Position.toConfig s.seq.frameNumber (s.pos q) := by
  change (List.map (Position.toConfig s.seq.frameNumber) s.positions).getD q Position.cold = _
  simp [State.pos, List.getD_eq_getElem?_getD, hq]

theorem Position.toConfig_pendingBind (f : FrameNo) (r : Position) :
    (Position.toConfig f r).state.pendingBind = r.state.pendingBind ∧ (Position.toConfig f r).sensorId = r.sensorId := by
  unfold Position.toConfig
  dsimp only
  cases h : r.state <;> simp [Position.emptyWindow, h, PosState.pendingBind]

theorem Position.toConfig_offered (f : FrameNo) (r : Position) : (Position.toConfig f r).state = .offered ↔ r.state = .offered := by
  unfold Position.toConfig
  dsimp only
  cases h : r.state <;> simp [Position.emptyWindow, h]

theorem Engine.voidedFor_congr (e : Engine) {f g : Nat → Bool} (h : ∀ p < 32, f p = g p) : e.voidedFor f = e.voidedFor g := by
  rw [← e.voidedFor_all f, ← e.voidedFor_all g]
  refine congrArg _ (funext fun p => ?_)
  by_cases hp : p < 32
  · rw [h p hp]
  · rw [decide_eq_false (fun hm => hp (mem_allPositions.mp hm)), Bool.false_and, Bool.false_and]

end Sys2Proof.Machine

/-! PROOF. A change to CONFIG at a frame end, whole (R168). -/

namespace Sys2Proof.Machine

/-- Work on the members of a list that meet a test. -/
theorem map_filter_eq_filterMap {α β : Type} (g : α → Bool) (f : α → β) (l : List α) :
    (l.filter g).map f = l.filterMap (fun a => if g a then some (f a) else none) := by
  induction l with
  | nil => rfl
  | cons a l ih =>
    cases h : g a
    · rw [List.filter_cons_of_neg (by simp [h]), List.filterMap_cons, h, ih]
      rfl
    · rw [List.filter_cons_of_pos h, List.map_cons, List.filterMap_cons, h, ih]
      rfl

/-- The notices of the pending positions at a change to CONFIG (R54). -/
def State.failedNotices (s : State) : List (Notice × Nat) := allPositions.filterMap (fun p =>
  match (s.pos p).state with
  | .offered => some (.bind p (s.pos p).sensorId .failedMode, 3)
  | .learning => some (.bind p none .failedMode, 3)
  | _ => none)

/-- The part after the table and the join controller have met a change to CONFIG (R13, R54). -/
def State.failedTable (s : State) : State := allPositions.foldl State.failBinding s.configTable

theorem State.changeToConfig_failedTable (s : State) : s.changeToConfig =
    ((((s.failedTable.setCandidates []).setReoffers []).halted).enterMode .config).noticeMode .config := rfl

section
variable {s : State}

theorem State.configTable_gone (hlen : s.positions.length = 32) {p : Nat} (hp : p < 32) :
    (s.configTable.pos p).state.pendingBind = (s.pos p).state.pendingBind := by
  rw [State.configTable_pos (hlen ▸ hp)]
  exact (Position.toConfig_pendingBind _ _).1

theorem State.failedNotices_eq (hlen : s.positions.length = 32) :
    (allPositions.filter (fun p => (s.configTable.pos p).state.pendingBind)).map (fun p => (s.configTable.failedNote p, 3)) =
      s.failedNotices := by
  rw [map_filter_eq_filterMap]
  refine List.filterMap_congr fun p hp => ?_
  have hlt := mem_allPositions.mp hp
  rw [State.configTable_gone hlen hlt]
  unfold State.failedNote
  rw [State.configTable_pos (hlen ▸ hlt), (Position.toConfig_pendingBind _ _).2, if_congr (Position.toConfig_offered _ _) rfl rfl]
  cases (s.pos p).state <;> rfl

/-- The record of each position at a change to CONFIG (R13, R54, R119). -/
theorem Position.toConfig_failed (f : FrameNo) (r : Position) : (Position.toConfig f r).failed f =
    match r.state with
    | .active | .missing =>
        { r with state := .assigned, stateEntry := f, wheel := { r.wheel with history := [] }, alarms := clearAlarms }
    | .learning | .offered => Position.emptied .vacant f
    | .absent | .vacant | .assigned => { r with wheel := { r.wheel with history := [] }, alarms := clearAlarms } := by
  unfold Position.failed
  rw [(Position.toConfig_pendingBind f r).1]
  obtain ⟨state, id, entry, wheel, offer, learn, alarms⟩ := r
  cases state <;> rfl

/-- What a change to CONFIG moves, block by block (R168). -/
structure State.ToConfig (s t : State) : Prop where
  frame : t = { s with
    modes := ⟨.config, none, s.modes.load⟩, seq := s.seq.stop, link := LinkReceiver.clear
    join := { s.join with candidates := [], reoffers := [] }
    positions := t.positions, queue := [], engine := t.engine, lamp := true
    port := { s.port with silenceTimer := false, hostSilent := false }, store := t.store, conds := t.conds, joinWork := .due }
  engine : t.engine = (s.engine.voidedFor (fun p => (s.pos p).state.pendingBind)).markHistory
  pos : ∀ p < 32, t.pos p = (Position.toConfig s.seq.frameNumber (s.pos p)).failed s.seq.frameNumber
  clean : t.store.Clean
  reply : t.store.reply = s.store.reply
  readings : t.store.readings = s.store.readings
  mask : t.conds.mask = s.conds.mask
  room : (s.store.entries.filter (fun e => !(e.waits && e.notice.alarmOrReading))).length + s.failedNotices.length < 8 →
    t.conds = s.conds ∧ t.store.shown =
      (s.store.entries.filter (fun e => !(e.waits && e.notice.alarmOrReading))).map (fun e => (e.notice, e.priority)) ++
        s.failedNotices ++ [(.mode .config .command, 1)]

theorem NoticeStore.vacated_clean {st : NoticeStore} {note : Nat → Notice} (hnote : ∀ p, (note p).alarmOrReading = false)
    (h : st.Clean) (ps : List Nat) : (st.vacated note ps).Clean :=
  foldl_keeps NoticeStore.Clean _ ps (fun _ p _ hst => NoticeStore.Clean.take
    (fun e he hw => hst e (List.mem_filter.mp he).1 hw) (hnote p) 3) st h

theorem State.failBinding_clean {t : State} (h : t.store.Clean) (p : Nat) : (t.failBinding p).store.Clean := by
  unfold State.failBinding
  split
  · rw [State.queueNotice_store]
    exact NoticeStore.Clean.take (fun e he hw => h e (List.mem_filter.mp he).1 hw) rfl 3
  · exact h

theorem State.changeToConfig_blocks (hlen : s.positions.length = 32) : s.ToConfig s.changeToConfig := by
  have hpast : s.configTable.VacatedPast (fun p => (s.configTable.pos p).state.pendingBind) s.configTable.failedNote
      (fun _ => none) allPositions s.failedTable := s.configTable.failBindings_past
  have hpos : ∀ p < 32, s.changeToConfig.pos p = (Position.toConfig s.seq.frameNumber (s.pos p)).failed s.seq.frameNumber :=
    fun p hp => by rw [State.changeToConfig_pos s (hlen ▸ hp), if_pos hp]
  have hclean : s.failedTable.store.Clean := by
    unfold State.failedTable
    exact foldl_keeps (fun t : State => t.store.Clean) State.failBinding allPositions
      (fun t p _ h => State.failBinding_clean h p) s.configTable s.store.clean_withdraw
  have heq := s.changeToConfig_failedTable
  generalize s.failedTable = j at hpast heq hclean
  have hwhole := heq
  have hq := State.queueNotice_spec (((((j.setCandidates []).setReoffers []).halted).enterMode .config)) (.mode .config .command) 1
  obtain ⟨set, hset, hq⟩ := hq
  rw [State.noticeMode, hq] at heq
  generalize s.changeToConfig = t at heq hwhole hpos
  have hstore : t.store = (j.store.take (.mode .config .command) 1).1 := congrArg State.store heq
  have hconds : t.conds = { j.conds with set := set } := congrArg State.conds heq
  refine ⟨?frame, ?engine, hpos, ?clean, ?reply, ?readings, ?mask, fun hroom => ?room⟩
  case frame =>
    rw [hstore, hconds, congrArg State.engine heq]
    have hpositions := congrArg State.positions heq
    rw [hpositions]
    conv_lhs => rw [heq]
    obtain ⟨rs, cs, e, l, st, cd, rfl⟩ : ∃ rs cs e l st cd, j = { s.configTable with
        positions := rs, join := { s.configTable.join with candidates := cs }, engine := e, lamp := l, store := st, conds := cd } :=
      ⟨_, _, _, _, _, _, hpast.frame⟩
    rfl
  case engine =>
    have hj : j.engine = s.engine.voidedFor (fun p => (s.pos p).state.pendingBind) := by
      have hfold : j.engine = s.engine.voidedFor (fun p => decide (p ∈ allPositions) && (s.configTable.pos p).state.pendingBind) :=
        congrArg State.engine hpast.frame
      rw [hfold, Engine.voidedFor_all]
      exact Engine.voidedFor_congr _ fun p hp => State.configTable_gone hlen hp
    rw [← hj]
    exact congrArg State.engine heq
  case clean =>
    rw [hstore]
    exact hclean.take rfl 1
  case reply =>
    rw [hstore, NoticeStore.take_reply, hpast.reply]
    rfl
  case readings =>
    rw [hstore, NoticeStore.take_readings, hpast.readings]
    rfl
  case mask =>
    rw [hconds]
    exact hpast.mask
  case room =>
    have hcount := congrArg List.length (State.failedNotices_eq hlen)
    rw [List.length_map] at hcount
    have hleft : s.configTable.store.entries = s.store.entries.filter (fun e => !(e.waits && e.notice.alarmOrReading)) := rfl
    rw [← hleft, ← hcount] at hroom
    obtain ⟨hconds', hvacated⟩ := hpast.room (.inl (List.filterMap_eq_nil_iff.mpr fun p _ => by split <;> rfl)) (by omega)
    have hshown := (NoticeStore.clean_withdraw s.store).vacated (note := s.configTable.failedNote) (fun _ => rfl)
      (ps := allPositions.filter (fun p => (s.configTable.pos p).state.pendingBind)) (Nat.le_of_lt hroom)
    have hjshown : j.store.shown = s.configTable.store.shown ++ s.failedNotices := by
      rw [hvacated, ← State.failedNotices_eq hlen]
      exact hshown
    have hjlen : j.store.entries.length < 8 := by
      rw [← NoticeStore.length_shown, hjshown, List.length_append, NoticeStore.length_shown, ← hcount]
      exact hroom
    rw [State.noticeMode, State.queueNotice_room (by exact hjlen)] at hwhole
    refine ⟨(congrArg State.conds hwhole).trans hconds', ?_⟩
    rw [congrArg State.store hwhole]
    refine (NoticeStore.take_shown_room rfl hjlen 1).trans ?_
    rw [hjshown]
    rfl

end

/-- A frame end that meets a pending change to CONFIG. -/
theorem exec_frameEnd {s : State} (hm : s.modes.mode ≠ .config) (ht : s.seq.timer ≠ .stopped) :
    exec .frameEnd s = .next s.frameEnd := by
  have hruns : s.frameRuns = true := by simp [State.frameRuns, hm, ht]
  change Host.Outcome.next (if s.frameRuns then s.frameEnd else s) = _
  rw [hruns]
  rfl

theorem exec_modeChange {s : State} (hm : s.modes.mode ≠ .config) (ht : s.seq.timer ≠ .stopped) {m : Mode}
    (hp : s.modes.pending = some m) : exec .modeChange s = .next s.frameEnd := by
  have hruns : (s.frameRuns && s.modes.pending.isSome) = true := by simp [State.frameRuns, hm, ht, hp]
  change Host.Outcome.next (if s.frameRuns && s.modes.pending.isSome then s.frameEnd else s) = _
  rw [hruns]
  rfl

/-- Settles O40: either row is the whole frame end, which is the change to CONFIG after the beacon has left. -/
theorem changeToConfigAtAFrameEnd : Obligations.ChangeToConfigAtAFrameEnd := by
  unfold Obligations.ChangeToConfigAtAFrameEnd
  intro s hlen hm ht hp
  have hend : s.frameEnd = s.beaconSent.changeToConfig := by rw [State.frameEnd, hp]
  have hsent := s.beaconSent_eq
  have hstate := s.beaconSent_state
  have hid := s.beaconSent_sensorId
  have hcases := s.beaconSent_pos_cases
  have hblocks := State.changeToConfig_blocks (s := s.beaconSent) (s.beaconSent_length.trans hlen)
  have hseq : s.beaconSent.seq.frameNumber = s.seq.frameNumber := by rw [hsent]
  have hstore : s.beaconSent.store = s.store := by rw [hsent]
  have hconds : s.beaconSent.conds = s.conds := by rw [hsent]
  have hengine : s.beaconSent.engine = s.engine := by rw [hsent]
  have hfailed : s.beaconSent.failedNotices = s.failedNotices := by
    unfold State.failedNotices
    simp only [hstate, hid]
  refine ⟨s.beaconSent.changeToConfig, hend ▸ exec_frameEnd hm ht, hend ▸ exec_modeChange hm ht hp, ?_⟩
  generalize s.beaconSent.changeToConfig = t at hblocks
  obtain ⟨hframe, hbusy, hpos, hclean, hreply, hreadings, hmask, hroom⟩ := hblocks
  rw [hstore] at hroom hreply hreadings
  rw [hconds] at hroom hmask
  rw [hfailed] at hroom
  rw [hengine] at hbusy
  simp only [hstate] at hbusy
  refine ⟨?frame, fun p hp => ?records, fun hidle => ?idle, fun w hw => ?busy, hclean, fun h => hroom h, hreadings, hreply, hmask⟩
  case frame =>
    generalize s.beaconSent = b at hsent hframe
    rw [hsent] at hframe
    exact hframe
  case records =>
    rw [hpos p hp, Position.toConfig_failed, hseq]
    rcases hcases p with h | ⟨hoffered, o, h⟩
    · rw [h] <;> rfl
    · simp only [h, hoffered]
  case idle =>
    rw [hbusy, hidle]
    rfl
  case busy =>
    rw [hbusy, hw]
    rfl

end Sys2Proof.Machine

/-! PROOF. The blocks' work at a frame end with no change to CONFIG, in either order: the silence check and the join controller's
work leave the same records, candidates and notices (R13, R53, R55, log entry 7). -/

namespace Sys2Proof.Machine

/-! ## The silence check as a block -/

/-- What the silence check has done by the end of a frame (R13, R110). -/
structure State.SilenceEnded (s t : State) : Prop where
  frame : t = { s with positions := t.positions, lamp := t.lampRule, store := t.store, conds := t.conds }
  pos : ∀ p < 32, t.pos p = if s.fallsSilent p then Position.madeMissing s.seq.frameNumber (s.pos p) else s.pos p
  length : t.positions.length = s.positions.length
  reply : t.store.reply = s.store.reply
  readings : t.store.readings = s.store.readings
  mask : t.conds.mask = s.conds.mask
  room : s.store.entries.length + s.silenceNotices.length ≤ 8 →
    t.conds = s.conds ∧ t.store = s.store.takeAll s.silenceNotices

theorem State.becomeMissing_length (s : State) (p : Nat) : (s.becomeMissing p).positions.length = s.positions.length := by
  unfold State.becomeMissing
  dsimp only
  split
  · simp
  · rw [State.becomeActive, State.queueAlarm_all, State.queueAll_positions, State.setAlarm]
    simp

theorem State.silenceCheck_length (s : State) : s.silenceCheck.positions.length = s.positions.length := by
  unfold State.silenceCheck
  rw [State.judgeLamp_positions]
  refine foldl_field (fun t : State => t.positions.length) _ (fun t p => ?_) allPositions s
  split
  · exact State.becomeMissing_length t p
  · rfl

theorem State.silenceCheck_ended (s : State) : s.SilenceEnded s.silenceCheck := by
  obtain ⟨heq, hpos⟩ := s.silenceCheck_eq
  obtain ⟨set, -, hq⟩ := s.queueAll_spec s.silenceNotices
  have hlength := s.silenceCheck_length
  generalize s.silenceCheck = t at heq hpos hlength
  have hstore := congrArg State.store heq
  have hconds := congrArg State.conds heq
  refine ⟨?frame, hpos, hlength, ?reply, ?readings, ?mask, fun hroom => ?room⟩
  case frame =>
    rw [hstore, hconds]
    conv_lhs => rw [heq]
    rw [hq]
  case reply => rw [hstore, hq]; exact NoticeStore.takeAll_reply _ _
  case readings => rw [hstore, hq]; exact NoticeStore.takeAll_readings _ _
  case mask => rw [hconds, hq]
  case room =>
    rw [State.queueAll_room (fun _ => State.silenceNotices_not_reading) hroom] at hstore hconds
    exact ⟨hconds, hstore⟩

/-! ## The two blocks do not meet (R53) -/

/-- What both blocks leave of a record: the one kept, counted, vacated, or made MISSING. -/
theorem State.recordAtEnd_eq (s : State) (p : Nat) : s.recordAtEnd p =
    if s.offerEnds p || s.learnEnds p then Position.emptied .vacant s.seq.frameNumber
    else if s.fallsSilent p then Position.madeMissing s.seq.frameNumber (s.pos p) else s.learnCounted p := rfl

section
variable {s t : State} {p : Nat}

theorem State.gone_of_silent (h : s.fallsSilent p = true) : s.offerEnds p = false ∧ s.learnEnds p = false := by
  have hstate := State.fallsSilent_state h
  constructor
  · cases ho : s.offerEnds p with
    | false => rfl
    | true => rw [State.offerEnds_offered ho] at hstate; simp at hstate
  · cases hl : s.learnEnds p with
    | false => rfl
    | true => rw [State.learnEnds_learning hl] at hstate; simp at hstate

theorem State.learnCounted_silent (h : s.fallsSilent p = true) : s.learnCounted p = s.pos p := by
  unfold State.learnCounted
  rcases State.fallsSilent_state h with h | h <;> rw [h] <;> simp

/-- The join controller's work leaves what the silence check looks at. -/
theorem State.fallsSilent_after_join (h : s.JoinEnded t) (hp : p < 32) : t.fallsSilent p = s.fallsSilent p := by
  have hseq : t.seq = s.seq := by rw [h.frame]
  cases hgone : (s.offerEnds p || s.learnEnds p) with
  | true =>
    have hpos := h.pos p hp
    rw [hgone] at hpos
    have hnot : s.fallsSilent p = false := by
      cases hs : s.fallsSilent p with
      | false => rfl
      | true => rw [(State.gone_of_silent hs).1, (State.gone_of_silent hs).2] at hgone; cases hgone
    rw [hnot, t.fallsSilent_eq, hpos]
    rfl
  | false =>
    have hpos := h.pos p hp
    rw [hgone] at hpos
    rw [t.fallsSilent_eq, s.fallsSilent_eq, hpos, hseq]
    change silent _ _ (s.learnCounted p) = _
    unfold State.learnCounted
    split
    · rfl
    · rfl

theorem State.pos_after_join (h : s.JoinEnded t) (hp : p < 32) (hs : s.fallsSilent p = true) : t.pos p = s.pos p := by
  obtain ⟨ho, hl⟩ := State.gone_of_silent hs
  rw [h.pos p hp, ho, hl]
  exact State.learnCounted_silent hs

theorem State.silenceNotices_after_join (h : s.JoinEnded t) : t.silenceNotices = s.silenceNotices := by
  rw [t.silenceNotices_eq, s.silenceNotices_eq]
  refine List.filterMap_congr fun p hp => ?_
  have hlt := mem_allPositions.mp hp
  unfold State.missingNotice
  rw [State.fallsSilent_after_join h hlt]
  cases hs : s.fallsSilent p with
  | false => rfl
  | true =>
    rw [State.pos_after_join h hlt hs, h.frame]

/-- The silence check leaves what the join controller looks at. -/
theorem State.pos_after_silence (h : s.SilenceEnded t) (hp : p < 32)
    (hbind : (s.pos p).state = .offered ∨ (s.pos p).state = .learning ∨ (t.pos p).state = .offered ∨ (t.pos p).state = .learning) :
    t.pos p = s.pos p := by
  have hpos := h.pos p hp
  cases hs : s.fallsSilent p with
  | false => rw [hpos, hs]; rfl
  | true =>
    rw [hs] at hpos
    have hmissing : (t.pos p).state = .missing := by rw [hpos]; rfl
    rw [hmissing] at hbind
    rcases State.fallsSilent_state hs with h | h <;> rw [h] at hbind <;> simp at hbind

theorem State.offerEnds_after_silence (h : s.SilenceEnded t) (hp : p < 32) : t.offerEnds p = s.offerEnds p := by
  have hwork : t.joinWork = s.joinWork := by rw [h.frame]
  by_cases hbind : (s.pos p).state = .offered ∨ (t.pos p).state = .offered
  · rw [t.offerEnds_eq, s.offerEnds_eq, hwork, State.pos_after_silence h hp (by tauto)]
  · have hno : ∀ u : State, (u.pos p).state ≠ .offered → u.offerEnds p = false := fun u hu => by
      cases ho : u.offerEnds p with
      | false => rfl
      | true => exact absurd (State.offerEnds_offered ho) hu
    rw [hno t (fun h => hbind (.inr h)), hno s (fun h => hbind (.inl h))]

theorem State.learnEnds_after_silence (h : s.SilenceEnded t) (hp : p < 32) : t.learnEnds p = s.learnEnds p := by
  have hwork : t.joinWork = s.joinWork := by rw [h.frame]
  by_cases hbind : (s.pos p).state = .learning ∨ (t.pos p).state = .learning
  · rw [t.learnEnds_eq, s.learnEnds_eq, hwork, State.pos_after_silence h hp (by tauto)]
  · have hno : ∀ u : State, (u.pos p).state ≠ .learning → u.learnEnds p = false := fun u hu => by
      cases ho : u.learnEnds p with
      | false => rfl
      | true => exact absurd (State.learnEnds_learning ho) hu
    rw [hno t (fun h => hbind (.inr h)), hno s (fun h => hbind (.inl h))]

theorem State.learnCounted_after_silence (h : s.SilenceEnded t) (hp : p < 32) : t.learnCounted p =
    if s.fallsSilent p then Position.madeMissing s.seq.frameNumber (s.pos p) else s.learnCounted p := by
  have hwork : t.joinWork = s.joinWork := by rw [h.frame]
  have hpos := h.pos p hp
  cases hs : s.fallsSilent p with
  | false =>
    rw [hs] at hpos
    have hsame : t.pos p = s.pos p := hpos
    unfold State.learnCounted
    rw [hsame, hwork]
    rfl
  | true =>
    rw [hs] at hpos
    have hsame : t.pos p = Position.madeMissing s.seq.frameNumber (s.pos p) := hpos
    unfold State.learnCounted
    rw [hsame]
    have hno : ((Position.madeMissing s.seq.frameNumber (s.pos p)).state == .learning) = false := rfl
    rw [hno, Bool.and_false]
    rfl

theorem State.young_after_silence (h : s.SilenceEnded t) : t.young = s.young := by
  rw [h.frame]
  rfl

theorem State.returned_after_silence (h : s.SilenceEnded t) : t.returned = s.returned := by
  refine List.filterMap_congr fun p hp => ?_
  have hlt := mem_allPositions.mp hp
  rw [State.offerEnds_after_silence h hlt]
  cases ho : s.offerEnds p with
  | false => rfl
  | true => rw [State.pos_after_silence h hlt (.inl (State.offerEnds_offered ho))]

theorem State.offerNotices_after_silence (h : s.SilenceEnded t) : t.offerNotices = s.offerNotices := by
  rw [t.offerNotices_eq, s.offerNotices_eq, map_filter_eq_filterMap, map_filter_eq_filterMap]
  refine List.filterMap_congr fun p hp => ?_
  have hlt := mem_allPositions.mp hp
  rw [State.offerEnds_after_silence h hlt]
  cases ho : s.offerEnds p with
  | false => rfl
  | true =>
    unfold State.offerNote
    rw [State.pos_after_silence h hlt (.inl (State.offerEnds_offered ho))]

theorem State.learnNotices_after_silence (h : s.SilenceEnded t) : t.learnNotices = s.learnNotices := by
  rw [t.learnNotices_eq, s.learnNotices_eq, map_filter_eq_filterMap, map_filter_eq_filterMap]
  refine List.filterMap_congr fun p hp => ?_
  rw [State.learnEnds_after_silence h (mem_allPositions.mp hp)]

end

/-! ## Both blocks, in either order (R53) -/

/-- The positions vacated at a frame end. -/
def State.gone (s : State) (p : Nat) : Bool := s.offerEnds p || s.learnEnds p

/-- What the position table and the join controller have done by the end of a frame, in either order (R13, R53, R55). -/
structure State.FrameWorked (s t : State) : Prop where
  frame : t = { s with
    positions := t.positions, join := { s.join with candidates := t.join.candidates }
    engine := s.engine.voidedFor s.gone, lamp := t.lampRule, store := t.store, conds := t.conds, joinWork := .learnsCounted }
  pos : ∀ p < 32, t.pos p = s.recordAtEnd p
  length : t.positions.length = s.positions.length
  reply : t.store.reply = s.store.reply
  readings : t.store.readings = s.store.readings
  mask : t.conds.mask = s.conds.mask
  candidates : t.join.candidates = s.young ++ s.returned.take (8 - s.young.length)
  room : (s.young ++ s.returned).length ≤ 8 → s.store.served →
    s.store.entries.length + s.silenceNotices.length + s.offerNotices.length + s.learnNotices.length ≤ 8 →
    t.conds = s.conds ∧
      (t.store.Holds (s.store.entriesWithout s.gone) (s.silenceNotices ++ (s.offerNotices ++ s.learnNotices)) ∨
        t.store.Holds (s.store.entriesWithout s.gone) (s.offerNotices ++ s.learnNotices ++ s.silenceNotices))

theorem State.learnCounted_alarms (s : State) (p : Nat) : (s.learnCounted p).alarms = (s.pos p).alarms := by
  unfold State.learnCounted
  split <;> rfl

theorem Entry.leavesWith_congr (e : Entry) {f g : Nat → Bool} (h : ∀ p < 32, f p = g p) : e.leavesWith f = e.leavesWith g := by
  have hany : allPositions.any (fun p => f p && e.notice.alarmOrReadingFor p) =
      allPositions.any (fun p => g p && e.notice.alarmOrReadingFor p) := by
    rw [Bool.eq_iff_iff, List.any_eq_true, List.any_eq_true]
    exact exists_congr fun p => and_congr_right fun hp => by rw [h p (mem_allPositions.mp hp)]
  unfold Entry.leavesWith
  rw [hany]

section
variable {s j t : State}

/-- The join controller first. -/
theorem State.JoinEnded.worked (hj : s.JoinEnded j) (ht : j.SilenceEnded t) : s.FrameWorked t := by
  have hseq : j.seq = s.seq := by rw [hj.frame]
  refine ⟨?frame, fun p hp => ?pos, ht.length.trans hj.length, ht.reply.trans hj.reply, ht.readings.trans hj.readings,
    ht.mask.trans hj.mask, ?candidates, fun hfew hserved hroom => ?room⟩
  case frame =>
    have hjoin : t.join.candidates = j.join.candidates := by rw [ht.frame]
    rw [hjoin]
    have hframe := ht.frame
    obtain ⟨rs, cs, l, st, cd, rfl⟩ : ∃ rs cs l st cd, j = { s with
        positions := rs, join := { s.join with candidates := cs }
        engine := s.engine.voidedFor s.gone, lamp := l, store := st, conds := cd, joinWork := .learnsCounted } :=
      ⟨_, _, _, _, _, hj.frame⟩
    exact hframe
  case pos =>
    rw [ht.pos p hp, State.fallsSilent_after_join hj hp, s.recordAtEnd_eq, hseq]
    cases hs : s.fallsSilent p with
    | false => exact hj.pos p hp
    | true =>
      obtain ⟨ho, hl⟩ := State.gone_of_silent hs
      rw [State.pos_after_join hj hp hs, ho, hl]
      rfl
  case candidates =>
    have hjoin : t.join.candidates = j.join.candidates := by rw [ht.frame]
    rw [hjoin, hj.candidates]
  case room =>
    obtain ⟨hconds, hholds⟩ := hj.holds hserved.holds (by simp) (.inr hfew) (by omega)
    have hlen : j.store.entries.length ≤ s.store.entries.length + s.offerNotices.length + s.learnNotices.length := by
      have hkept := List.length_filter_le (fun e => !e.leavesWith (fun p => s.offerEnds p || s.learnEnds p)) s.store.entries
      rw [hholds.length_eq, List.length_append, List.length_append]
      simp only [List.length_nil]
      omega
    have hnotices := State.silenceNotices_after_join hj
    have hfits : j.store.entries.length + j.silenceNotices.length ≤ 8 := by rw [hnotices]; omega
    obtain ⟨hconds', hstore⟩ := ht.room hfits
    refine ⟨hconds'.trans hconds, .inr ?_⟩
    rw [hstore, ← hnotices]
    exact hholds.takeAll (fun _ => State.silenceNotices_not_reading) hfits

/-- The silence check first. -/
theorem State.SilenceEnded.worked (hlen : s.positions.length = 32) (hj : s.SilenceEnded j) (ht : j.JoinEnded t) :
    s.FrameWorked t := by
  have hseq : j.seq = s.seq := by rw [hj.frame]
  have hgone : ∀ p < 32, (j.offerEnds p || j.learnEnds p) = s.gone p := fun p hp => by
    rw [State.offerEnds_after_silence hj hp, State.learnEnds_after_silence hj hp]
    rfl
  refine ⟨?frame, fun p hp => ?pos, ht.length.trans hj.length, ht.reply.trans hj.reply, ht.readings.trans hj.readings,
    ht.mask.trans hj.mask, ?candidates, fun hfew hserved hroom => ?room⟩
  case frame =>
    have hengine : j.engine.voidedFor (fun p => j.offerEnds p || j.learnEnds p) = s.engine.voidedFor s.gone := by
      rw [Engine.voidedFor_congr _ hgone, hj.frame]
    have hlamp : t.lamp = t.lampRule := by
      rw [ht.lamp]
      cases hany : allPositions.any (fun p => j.offerEnds p || j.learnEnds p) with
      | true => rfl
      | false =>
        have hjlamp : j.lamp = j.lampRule := congrArg State.lamp hj.frame
        have hjlen : j.positions.length = 32 := hj.length.trans hlen
        have halarms : ∀ p, (t.pos p).alarms = (j.pos p).alarms := fun p => by
          by_cases hp : p < 32
          · have hnone : ∀ q ∈ allPositions, (j.offerEnds q || j.learnEnds q) = false := by simpa using hany
            rw [ht.pos p hp, hnone p (mem_allPositions.mpr hp)]
            exact State.learnCounted_alarms j p
          · rw [State.pos_of_le (by rw [ht.length, hjlen]; omega), State.pos_of_le (by rw [hjlen]; omega)]
        have hrule : t.lampRule = j.lampRule := State.lampRule_congr (by rw [ht.frame]) (by rw [ht.frame]) (by rw [ht.frame])
          (State.map_alarms_congr ht.length halarms)
        rw [hrule]
        exact hjlamp
    have hframe := ht.frame
    rw [hengine, hlamp] at hframe
    generalize t.lampRule = l' at hframe ⊢
    obtain ⟨rs, l, st, cd, rfl⟩ : ∃ rs l st cd, j = { s with positions := rs, lamp := l, store := st, conds := cd } :=
      ⟨_, _, _, _, hj.frame⟩
    exact hframe
  case pos =>
    rw [ht.pos p hp, hgone p hp, hseq, State.learnCounted_after_silence hj hp, s.recordAtEnd_eq]
    rfl
  case candidates => rw [ht.candidates, State.young_after_silence hj, State.returned_after_silence hj]
  case room =>
    have hsilence : s.store.entries.length + s.silenceNotices.length ≤ 8 := by omega
    obtain ⟨hconds, hstore⟩ := hj.room hsilence
    have hheld : j.store.Holds s.store.entries s.silenceNotices := by
      rw [hstore]
      exact hserved.holds.takeAll (fun _ => State.silenceNotices_not_reading) hsilence
    have hlen := hheld.length_eq
    obtain ⟨hconds', hholds⟩ := ht.holds hheld (fun x hx p hp => by
      obtain ⟨q, k, e, f, c, temp, hn, hs⟩ := State.mem_silenceNotices hx
      have hne : q ≠ p := fun hqp => by
        rcases Nat.lt_or_ge p 32 with hlt | hge
        · rw [hgone p hlt, ← hqp] at hp
          unfold State.gone at hp
          rw [(State.gone_of_silent hs).1, (State.gone_of_silent hs).2] at hp
          cases hp
        · have hcold : s.pos p = Position.cold := State.pos_of_le (by omega)
          have hstate := State.fallsSilent_state (hqp ▸ hs)
          rw [hcold] at hstate
          rcases hstate with h | h <;> cases h
      rw [hn]
      simpa [Notice.alarmOrReadingFor] using hne) (.inr (by rw [State.young_after_silence hj, State.returned_after_silence hj]; exact hfew))
      (by rw [State.offerNotices_after_silence hj, State.learnNotices_after_silence hj]; omega)
    refine ⟨hconds'.trans hconds, .inl ?_⟩
    rw [State.offerNotices_after_silence hj, State.learnNotices_after_silence hj] at hholds
    have hkept : s.store.entries.filter (fun e => !e.leavesWith (fun p => j.offerEnds p || j.learnEnds p)) =
        s.store.entriesWithout s.gone :=
      List.filter_congr fun e _ => by rw [Entry.leavesWith_congr e hgone]; rfl
    rw [← hkept]
    exact hholds

/-- The work of both blocks, in whichever order the free value says (log entry 7). -/
theorem State.alongside_worked (hlen : s.positions.length = 32) (joinFirst : Bool) : s.FrameWorked (s.alongside joinFirst) := by
  cases joinFirst with
  | true =>
    rw [State.alongside_true]
    exact s.joinFrameEnd_ended.worked s.joinFrameEnd.silenceCheck_ended
  | false =>
    rw [State.alongside_false]
    exact State.SilenceEnded.worked hlen s.silenceCheck_ended s.silenceCheck.joinFrameEnd_ended

end

end Sys2Proof.Machine

/-! PROOF. The start of a frame: the beacon it is given, and the offers that TEST counts at once (R20, R24, R25, R51). -/

namespace Sys2Proof.Machine

/-! ## The beacon's maps and offer places (R24, R51) -/

/-- The map of the positions that meet a test, position by position. -/
theorem getLsbD_mapOf (f : Nat → Bool) {q : Nat} (hq : q < 32) : (mapOf f).getLsbD q = f q := by
  have key : ∀ n, ((List.range n).foldl (fun m p => if f p then flagAdd p m else m) 0#32).getLsbD q = (decide (q < n) && f q) := by
    intro n
    induction n with
    | zero => simp
    | succ n ih =>
      rw [List.range_succ, List.foldl_append, List.foldl_cons, List.foldl_nil]
      have hbit : ((1#32) <<< n).getLsbD q = decide (q = n) := by
        rw [BitVec.getLsbD_shiftLeft, BitVec.getLsbD_one, decide_eq_true hq, Bool.true_and, Bool.eq_iff_iff]
        simp only [Bool.and_eq_true, Bool.not_eq_true', decide_eq_false_iff_not, decide_eq_true_eq]
        omega
      have hlt : decide (q < n + 1) = (decide (q < n) || decide (q = n)) := by
        rw [Bool.eq_iff_iff]
        simp only [Bool.or_eq_true, decide_eq_true_eq]
        omega
      rw [hlt]
      cases hf : f n with
      | false =>
        rw [if_neg Bool.false_ne_true, ih]
        by_cases hqn : q = n
        · simp [hqn, hf]
        · simp [hqn]
      | true =>
        rw [if_pos rfl, flagAdd, BitVec.getLsbD_or, ih, hbit]
        by_cases hqn : q = n
        · simp [hqn, hf]
        · simp [hqn]
  rw [mapOf, key, decide_eq_true (by exact hq), Bool.true_and]

/-- The offers of the OFFERED positions, as R51's first step lists them. -/
def State.ownEntry (s : State) (p : Nat) : Option OfferEntry :=
  if (s.pos p).state = .offered then (s.pos p).sensorId.map (fun id => ⟨p + 1, id, true⟩) else none

theorem State.ownOffers_eq (s : State) : s.ownOffers = allPositions.filterMap s.ownEntry := by
  refine List.filterMap_congr fun p _ => ?_
  unfold State.ownEntry
  cases (s.pos p).state <;> cases (s.pos p).sensorId <;> rfl

/-- The offer places are R51's (R51). -/
theorem State.offerPlaces_eq (s : State) : s.offerPlaces = s.offersWith s.join.reoffers := by
  have hagain : ∀ id, s.boundPosition id = allPositions.find? (fun p =>
      decide ((s.pos p).state ∈ [PosState.assigned, .active, .missing] ∧ (s.pos p).sensorId = some id)) := fun id => by
    refine congrArg (fun g => allPositions.find? g) (funext fun p => ?_)
    rw [Bool.eq_iff_iff, decide_eq_true_eq]
    exact Position.holds_bound_iff _ _
  unfold State.offerPlaces State.reofferEntries State.offersWith
  rw [s.ownOffers_eq]
  simp only [hagain]
  rfl

/-- The offer places look at the states and the sensors. -/
theorem State.offersWith_congr {s t : State}
    (h : ∀ p < 32, (t.pos p).state = (s.pos p).state ∧ (t.pos p).sensorId = (s.pos p).sensorId) (ids : List SensorId) :
    t.offersWith ids = s.offersWith ids := by
  have hall : ∀ p ∈ allPositions, (t.pos p).state = (s.pos p).state ∧ (t.pos p).sensorId = (s.pos p).sensorId :=
    fun p hp => h p (mem_allPositions.mp hp)
  have hown : ∀ p ∈ allPositions, t.ownEntry p = s.ownEntry p := fun p hp => by
    unfold State.ownEntry
    rw [(hall p hp).1, (hall p hp).2]
  have hagain : ∀ id, allPositions.find? (fun p =>
        decide ((t.pos p).state ∈ [PosState.assigned, .active, .missing] ∧ (t.pos p).sensorId = some id)) =
      allPositions.find? (fun p =>
        decide ((s.pos p).state ∈ [PosState.assigned, .active, .missing] ∧ (s.pos p).sensorId = some id)) := fun id => by
    refine List.find?_congr fun p hp => ?_
    rw [(hall p hp).1, (hall p hp).2]
  unfold State.offersWith
  simp only [hagain]
  exact congrArg (fun own => List.take 4 (own ++ _)) (List.filterMap_congr hown)

/-- An offer place of a position is its own sensor's, and each position has at most one (R51). -/
theorem State.mem_offersWith {s : State} {ids : List SensorId} {o : OfferEntry} (h : o ∈ s.offersWith ids)
    (hown : o.isOffer = true) : ∃ p < 32, s.ownEntry p = some o := by
  rcases List.mem_append.mp (List.mem_of_mem_take h) with h | h
  · obtain ⟨p, hp, ho⟩ := List.mem_filterMap.mp h
    exact ⟨p, mem_allPositions.mp hp, ho⟩
  · obtain ⟨id, -, ho⟩ := List.mem_filterMap.mp h
    obtain ⟨p, -, rfl⟩ := Option.map_eq_some_iff.mp ho
    cases hown

theorem State.ownEntry_some {s : State} {p : Nat} {o : OfferEntry} (h : s.ownEntry p = some o) :
    o.slot = p + 1 ∧ o.isOffer = true ∧ (s.pos p).state = .offered ∧ (s.pos p).sensorId = some o.id := by
  unfold State.ownEntry at h
  split at h
  · rename_i hoffered
    obtain ⟨id, hid, rfl⟩ := Option.map_eq_some_iff.mp h
    exact ⟨rfl, rfl, hoffered, hid⟩
  · cases h

theorem State.offersWith_pairwise (s : State) (ids : List SensorId) :
    ((s.offersWith ids).filter (fun o => o.isOffer)).Pairwise (fun x y => x.slot ≠ y.slot) := by
  have hown : (allPositions.filterMap s.ownEntry).Pairwise (fun x y => x.slot ≠ y.slot) := by
    rw [List.pairwise_filterMap]
    refine allPositions_nodup.imp fun {p q} hpq x hx y hy => ?_
    rw [(State.ownEntry_some hx).1, (State.ownEntry_some hy).1]
    exact fun h => hpq (Nat.succ.inj h)
  have hagain : ∀ rs : List OfferEntry, (∀ o ∈ rs, o.isOffer = false) →
      ((allPositions.filterMap s.ownEntry ++ rs).filter (fun o => o.isOffer)).Pairwise (fun x y => x.slot ≠ y.slot) := by
    intro rs hrs
    rw [List.filter_append, List.filter_eq_nil_iff (l := rs).mpr (fun o ho => by simp [hrs o ho]), List.append_nil]
    exact hown.filter _
  refine List.Pairwise.sublist (List.Sublist.filter _ (List.take_sublist 4 _)) (hagain _ fun o ho => ?_)
  obtain ⟨id, -, h⟩ := List.mem_filterMap.mp ho
  obtain ⟨p, -, rfl⟩ := Option.map_eq_some_iff.mp h
  rfl

theorem State.slot_pos_of_mem_offersWith {s : State} {ids : List SensorId} {o : OfferEntry} (h : o ∈ s.offersWith ids) :
    1 ≤ o.slot := by
  rcases List.mem_append.mp (List.mem_of_mem_take h) with h | h
  · obtain ⟨p, -, ho⟩ := List.mem_filterMap.mp h
    rw [(State.ownEntry_some (s := s) ho).1]
    exact Nat.succ_pos p
  · obtain ⟨id, -, ho⟩ := List.mem_filterMap.mp h
    obtain ⟨p, -, rfl⟩ := Option.map_eq_some_iff.mp ho
    exact Nat.succ_pos p

/-! ## The start of a frame (R20, R25) -/

/-- What the start of a frame has done, with the beacon built (R20, R21, R24, R25, R51, R52). -/
structure State.FrameStarted (s t : State) (b : Beacon) : Prop where
  frame : t = { s with
    seq := { s.seq with
      frameNumber := s.seq.frameNumber + 1#32
      timer := .running (if s.modes.mode = .park then 8 * s.seq.period else s.seq.period)
      beacon := some b, txKey := decide (s.modes.mode ≠ .test), txData := if s.modes.mode = .test then [] else b.bytes }
    join := { s.join with reoffers := [] }, positions := t.positions, joinWork := .due }
  length : t.positions.length = s.positions.length
  untested : s.modes.mode ≠ .test → ∀ q, t.pos q = s.pos q
  tested : s.modes.mode = .test → ∀ q, t.pos q =
    if (s.pos q).state = .offered ∧ (s.pos q).stateEntry ≠ s.seq.frameNumber + 1#32 ∧
        ∃ o ∈ b.offers, o.isOffer = true ∧ o.slot = q + 1 then (s.pos q).offerCounted else s.pos q
  vehicleCode : b.vehicleCode = s.seq.vehicleCode
  frameLow : b.frameLow = (s.seq.frameNumber + 1#32).setWidth 16
  linkMode : b.linkMode = s.modes.mode
  ackMap : b.ackMap = s.link.ackMap
  joinOpen : s.modes.mode ≠ .config → b.joinOpen = (decide (s.modes.mode ≠ .park) && s.join.filters.any AcceptFilter.enable)
  downlink : b.downlink = if s.modes.mode = .park then some .park else s.seq.downlink
  assigned : ∀ p < 32, b.assignedMap.getLsbD p = (s.pos p).state.hasId
  offers : b.offers = s.offersWith s.join.reoffers

theorem State.startFrame_started (s : State) : ∃ b, s.FrameStarted s.startFrame b := by
  obtain ⟨b, hb⟩ : ∃ b, s.begun.seq.beacon = some b := ⟨_, rfl⟩
  have hbeacon : b = State.buildBeacon { s with
      joinWork := .due
      seq := { s.seq with frameNumber := s.seq.frameNumber + 1#32
                          timer := .running (effectivePeriod s.modes.mode s.seq.period) } } := (Option.some.inj hb).symm
  have hoffers : b.offers = s.offersWith s.join.reoffers := by
    rw [hbeacon]
    exact s.offerPlaces_eq
  have hcounts : s.startCounts = if s.modes.mode = .test then b.offers else [] := by
    unfold State.startCounts
    rw [hb]
    rfl
  have hpos : ∀ q, s.begun.pos q = s.pos q := fun _ => rfl
  have hstarted := s.startFrame_eq
  refine ⟨b, ?frame, ?length, fun hm q => ?untested, fun hm q => ?tested, ?vehicleCode, ?frameLow, ?linkMode, ?ackMap,
    fun hm => ?joinOpen, ?downlink, fun p hp => ?assigned, hoffers⟩
  case frame =>
    have hmoved := State.countOffers_eq s.begun s.startCounts
    rw [hstarted]
    generalize s.begun.countOffers s.startCounts = t at hmoved
    rw [hmoved, hbeacon]
    unfold State.begun effectivePeriod
    cases hm : s.modes.mode <;> rfl
  case length =>
    rw [hstarted, State.countOffers_length]
    rfl
  case untested =>
    rw [hstarted, hcounts, if_neg hm]
    rfl
  case tested =>
    have hcount := State.countOffers_pos b.offers q s.begun (fun o ho => State.slot_pos_of_mem_offersWith (hoffers ▸ ho))
      (hoffers ▸ s.offersWith_pairwise _)
    rw [hstarted, hcounts, if_pos hm, hcount, hpos]
    refine if_congr ⟨?_, ?_⟩ rfl rfl
    · rintro ⟨o, ho, hown, hslot, hin⟩
      obtain ⟨hoffered, -, hentry⟩ := (s.begun.offeredInBeacon_iff _ _).mp hin
      exact ⟨hoffered, hentry, o, ho, hown, hslot⟩
    · rintro ⟨hoffered, hentry, o, ho, hown, hslot⟩
      obtain ⟨p, -, hp⟩ := State.mem_offersWith (hoffers ▸ ho) hown
      obtain ⟨hpslot, -, -, hid⟩ := State.ownEntry_some hp
      obtain rfl : p = q := by omega
      exact ⟨o, ho, hown, hslot, (s.begun.offeredInBeacon_iff _ _).mpr ⟨hoffered, hid, hentry⟩⟩
  case vehicleCode => rw [hbeacon]; rfl
  case frameLow => rw [hbeacon]; rfl
  case linkMode => rw [hbeacon]; rfl
  case ackMap => rw [hbeacon]; rfl
  case joinOpen =>
    rw [hbeacon]
    unfold State.buildBeacon
    cases h : s.modes.mode <;> simp_all
  case downlink =>
    rw [hbeacon]
    rfl
  case assigned =>
    rw [hbeacon]
    exact getLsbD_mapOf _ hp

end Sys2Proof.Machine

/-! PROOF. A frame end with no change of mode (R20, R53). -/

namespace Sys2Proof.Machine

section
variable {s t : State} {b : Beacon}

/-- A frame start moves offer records of OFFERED positions alone (R25, R52). -/
theorem State.FrameStarted.pos_cases (h : s.FrameStarted t b) (q : Nat) : t.pos q = s.pos q ∨
    ((s.pos q).state = .offered ∧ t.pos q = (s.pos q).offerCounted) := by
  by_cases hm : s.modes.mode = .test
  · have hpos := h.tested hm q
    split at hpos
    · rename_i hc
      exact .inr ⟨hc.1, hpos⟩
    · exact .inl hpos
  · exact .inl (h.untested hm q)

theorem State.FrameStarted.bindings (h : s.FrameStarted t b) (q : Nat) :
    (t.pos q).state = (s.pos q).state ∧ (t.pos q).sensorId = (s.pos q).sensorId ∧ (t.pos q).alarms = (s.pos q).alarms ∧
      (t.pos q).wheel = (s.pos q).wheel := by
  rcases h.pos_cases q with h | ⟨-, h⟩ <;> rw [h] <;> exact ⟨rfl, rfl, rfl, rfl⟩

theorem State.FrameStarted.lampRule_eq (h : s.FrameStarted t b) : t.lampRule = s.lampRule :=
  State.lampRule_congr (by rw [h.frame]) (by rw [h.frame]) (by rw [h.frame])
    (State.map_alarms_congr h.length fun q => (h.bindings q).2.2.1)

/-- The beacon shows the records that stand when the frame runs. -/
theorem State.FrameStarted.assigned_eq (h : s.FrameStarted t b) : ∀ p < 32, b.assignedMap.getLsbD p = (t.pos p).state.hasId :=
  fun p hp => by rw [h.assigned p hp, (h.bindings p).1]

theorem State.FrameStarted.offers_eq (h : s.FrameStarted t b) : b.offers = t.offersWith s.join.reoffers := by
  rw [h.offers, State.offersWith_congr fun p _ => ⟨(h.bindings p).1, (h.bindings p).2.1⟩]

/-- A frame end's work, with the link receiver's part (R37). -/
theorem State.frameEndWork_worked (hlen : s.positions.length = 32) :
    ∃ a, s.FrameWorked a ∧ s.frameEndWork = { a with link := s.link.handOver } := by
  have hworked := State.alongside_worked hlen Config.joinWorkFirst
  have hlink : (s.alongside Config.joinWorkFirst).link = s.link := by rw [hworked.frame]
  exact ⟨_, hworked, by rw [State.frameEndWork, hlink]⟩

end

/-- A beacon that is off the air has left. -/
theorem State.beaconSent_of_off {s : State} (h : s.seq.txKey = false) : s.beaconSent = s := by
  rw [State.beaconSent, h]
  rfl

/-- What becomes of the records whose time has come at a frame end (R13, R55). -/
theorem State.recordAtEnd_cases (s : State) (p : Nat) :
    (s.fallsSilent p = true → (s.recordAtEnd p).state = .missing ∧ (s.recordAtEnd p).stateEntry = s.seq.frameNumber ∧
      (s.recordAtEnd p).sensorId = (s.pos p).sensorId) ∧
    (s.offerEnds p = true → s.recordAtEnd p = Position.emptied .vacant s.seq.frameNumber) ∧
    (∀ n, (s.pos p).state = .learning → s.joinWork ≠ .learnsCounted → (s.pos p).learn = some n → s.recordAtEnd p =
      if n ≤ 1 then Position.emptied .vacant s.seq.frameNumber else { s.pos p with learn := some (n - 1) }) := by
  refine ⟨fun hs => ?_, fun ho => ?_, fun n hst hwork hn => ?_⟩
  · rw [s.recordAtEnd_eq, (State.gone_of_silent hs).1, (State.gone_of_silent hs).2, hs]
    exact ⟨rfl, rfl, rfl⟩
  · rw [s.recordAtEnd_eq, ho]
    rfl
  · have hoffer : s.offerEnds p = false := by
      cases ho : s.offerEnds p with
      | false => rfl
      | true => exact absurd ((State.offerEnds_offered ho).symm.trans hst) (by decide)
    have hsilent : s.fallsSilent p = false := by
      cases hs : s.fallsSilent p with
      | false => rfl
      | true => rcases State.fallsSilent_state hs with h | h <;> rw [hst] at h <;> cases h
    have hsettled := State.learnSettled_eq hwork p
    rw [if_pos hst, hn] at hsettled
    rw [s.recordAtEnd_eq, hoffer, hsilent]
    exact hsettled

/-- Settles O39: the blocks' work, then the start of a frame. -/
theorem frameEndStartsTheNextFrame : Obligations.FrameEndStartsTheNextFrame := by
  unfold Obligations.FrameEndStartsTheNextFrame
  refine ⟨fun s u hm ht hu => ?sent, fun s hlen hm ht hp hkey => ?ended⟩
  case sent =>
    obtain rfl := Host.Outcome.next.inj hu
    have hsent := s.beaconSent_eq
    have hm' : s.beaconSent.modes.mode ≠ .config := by rw [hsent]; exact hm
    have ht' : s.beaconSent.seq.timer ≠ .stopped := by rw [hsent]; exact ht
    have hagain : s.beaconSent.beaconSent = s.beaconSent := State.beaconSent_of_off (by rw [hsent])
    have hpending : s.beaconSent.modes.pending = s.modes.pending := by rw [hsent]
    rw [exec_frameEnd hm ht, exec_frameEnd hm' ht', State.frameEnd, State.frameEnd, hagain, hpending]
  case ended =>
    intro gone
    obtain ⟨a, hworked, hwork⟩ := State.frameEndWork_worked hlen
    obtain ⟨b, hstarted⟩ := s.frameEndWork.startFrame_started
    have hend : s.frameEnd = s.frameEndWork.startFrame := by rw [State.frameEnd, hp, State.beaconSent_of_off hkey]
    have hidle : exec .modeChange s = .next s := by
      change Host.Outcome.next (if s.frameRuns && s.modes.pending.isSome then s.frameEnd else s) = _
      rw [hp, Option.isSome_none, Bool.and_false]
      rfl
    refine ⟨s.frameEndWork.startFrame, b, hend ▸ exec_frameEnd hm ht, hidle, ?_⟩
    generalize s.frameEndWork.startFrame = t at hstarted
    have hmodes : s.frameEndWork.modes = s.modes := by rw [hwork, hworked.frame]
    have hseq : s.frameEndWork.seq = s.seq := by rw [hwork, hworked.frame]
    have hreoffers : s.frameEndWork.join.reoffers = s.join.reoffers := by rw [hwork, hworked.frame]
    have hfilters : s.frameEndWork.join.filters = s.join.filters := by rw [hwork, hworked.frame]
    have hlink : s.frameEndWork.link.ackMap = s.link.heardMap := by rw [hwork]; rfl
    have hpos : ∀ p < 32, s.frameEndWork.pos p = s.recordAtEnd p := fun p hp =>
      (State.pos_congr (by rw [hwork]) p).trans (hworked.pos p hp)
    have hrule : t.lampRule = a.lampRule :=
      hstarted.lampRule_eq.trans (State.lampRule_congr (by rw [hwork]) (by rw [hwork]) (by rw [hwork]) (by rw [hwork]))
    have hstore : t.store = a.store := by rw [hstarted.frame, hwork]
    have hconds : t.conds = a.conds := by rw [hstarted.frame, hwork]
    have hcandidates : t.join.candidates = a.join.candidates := by rw [hstarted.frame, hwork]
    have hkept : ∀ p < 32, (s.recordAtEnd p).state ≠ .offered → t.pos p = s.recordAtEnd p := fun p hp hno => by
      rcases hstarted.pos_cases p with h | ⟨h, -⟩
      · rw [h, hpos p hp]
      · rw [hpos p hp] at h
        exact absurd h hno
    refine ⟨?frame, ?reply, ?readings, ?mask, fun p hp => ?settled, fun hnt p hp => ?untested, fun htest p hp => ?tested,
      fun hfew => ?candidates, fun hfew hserved hroom => ?notices, ?vehicle, ?low, ?link, ?ack, ?joinOpen, ?down,
      hstarted.assigned_eq, ?offers⟩
    case frame =>
      have hlamp : a.lamp = a.lampRule := congrArg State.lamp hworked.frame
      rw [hrule, hstore, hconds, hcandidates, ← hlamp]
      have hframe := hstarted.frame
      generalize s.frameEndWork = w at hwork hframe
      obtain ⟨rs, cs, e, l, st, cd, hshape⟩ : ∃ rs cs e l st cd, a = { s with
          positions := rs, join := { s.join with candidates := cs }, engine := s.engine.voidedFor s.gone
          lamp := l, store := st, conds := cd, joinWork := e } := ⟨_, _, _, _, _, _, hworked.frame⟩
      rw [hwork, hshape] at hframe
      rw [hshape]
      exact hframe
    case reply => rw [hstore, hworked.reply]
    case readings => rw [hstore, hworked.readings]
    case mask => rw [hconds, hworked.mask]
    case settled =>
      intro r
      obtain ⟨hmissing, hoffer, hlearn⟩ := s.recordAtEnd_cases p
      refine ⟨fun hs => ?_, fun hst hwork' hf => ?_, fun n hst hwork' hn => ?_⟩
      · have h := hmissing ((s.fallsSilent_iff p).mpr hs)
        rw [hkept p hp (by rw [h.1]; decide)]
        exact h
      · have h := hoffer ((State.offerEnds_iff hwork' p).mpr ⟨hst, hf⟩)
        rw [hkept p hp (by rw [h]; exact nofun)]
        exact h
      · have h := hlearn n hst hwork' hn
        rw [hkept p hp ?_]
        · exact h
        · rw [h]
          split
          · exact nofun
          · rw [hst]
            decide
    case untested => rw [hstarted.untested (hmodes ▸ hnt), hpos p hp]
    case tested => rw [hstarted.tested (hmodes ▸ htest), hpos p hp, hseq]; rfl
    case candidates => rw [hcandidates, hworked.candidates, take_eight (s.young_length.trans hfew)]
    case notices =>
      obtain ⟨hc, hholds⟩ := hworked.room hfew hserved hroom
      refine ⟨hconds.trans hc, ?_⟩
      rw [hstore]
      refine hholds.imp (fun h => ?_) (fun h => ?_)
      · rw [h.shown_eq, List.append_assoc]
        rfl
      · rw [h.shown_eq, ← List.append_assoc]
        rfl
    case vehicle => rw [hstarted.vehicleCode, hseq]
    case low => rw [hstarted.frameLow, hseq]
    case link => rw [hstarted.linkMode, hmodes]
    case ack => rw [hstarted.ackMap, hlink]
    case joinOpen => rw [hstarted.joinOpen (hmodes ▸ hm), hmodes, hfilters]
    case down => rw [hstarted.downlink, hmodes, hseq]
    case offers => rw [hstarted.offers_eq, hreoffers]

end Sys2Proof.Machine

/-! PROOF. A change among RUN, PARK and TEST at a frame end (R77, R91, R160, R168). -/

namespace Sys2Proof.Machine

/-! ## What a change of mode does to the table and the engine (R77, R91) -/

theorem State.emptyWindows_pos (s : State) (p : Nat) : s.emptyWindows.pos p = (s.pos p).emptyWindow := by
  have hget : ∀ x : Option Position, (x.map Position.emptyWindow).getD Position.cold = (x.getD Position.cold).emptyWindow := by
    intro x
    cases x <;> rfl
  change (List.map Position.emptyWindow s.positions).getD p Position.cold = (s.positions.getD p Position.cold).emptyWindow
  rw [List.getD_eq_getElem?_getD, List.getElem?_map, hget, ← List.getD_eq_getElem?_getD]

/-- The part under the new mode, with the MODE notice queued, before the frame starts (R77, R91, R160, R169). -/
def State.modeEntered (s : State) (m : Mode) : State := (s.emptyWindows.enterMode m).noticeMode m

/-- What a change to a mode outside CONFIG moves (R77, R91, R160, R169). -/
structure State.ModeEntered (s : State) (m : Mode) (t : State) : Prop where
  frame : t = { s with
    modes := { s.modes with mode := m, pending := none }, port := s.port.changeMode s.modes.mode m
    positions := t.positions, engine := s.engine.markHistory, lamp := t.lampRule, store := t.store, conds := t.conds }
  pos : ∀ p, t.pos p = (s.pos p).emptyWindow
  length : t.positions.length = s.positions.length
  store : t.store = (s.store.take (.mode m .command) 1).1
  mask : t.conds.mask = s.conds.mask
  room : s.store.entries.length < 8 → t.conds = s.conds

theorem State.modeEntered_eq (s : State) (m : Mode) : s.ModeEntered m (s.modeEntered m) := by
  obtain ⟨set, -, hq⟩ := (s.emptyWindows.enterMode m).queueNotice_spec (.mode m .command) 1
  have heq : s.modeEntered m = _ := hq
  have hroom : s.store.entries.length < 8 → (s.modeEntered m).conds = s.conds := fun h => by
    have hq := State.queueNotice_room (s := s.emptyWindows.enterMode m) h (.mode m .command) 1
    have hconds := congrArg State.conds hq
    exact hconds
  have hpos : ∀ p, (s.modeEntered m).pos p = (s.pos p).emptyWindow := fun p => by
    rw [State.modeEntered, State.noticeMode, State.queueNotice_pos]
    exact s.emptyWindows_pos p
  refine ⟨?frame, hpos, ?length, congrArg State.store heq, ?mask, hroom⟩
  case frame =>
    rw [heq]
    rfl
  case length =>
    rw [heq]
    exact List.length_map _
  case mask =>
    rw [heq]
    rfl

theorem Position.emptyWindow_alarms (r : Position) : r.emptyWindow.alarms = r.alarms := rfl

/-- The sub-records that a frame end leaves (R55, R110). -/
theorem State.recordAtEnd_alarms {s : State} {p : Nat} (hb : (s.pos p).state.bound = true) {k : Kind} (hk : k ≠ .missing) :
    (s.recordAtEnd p).alarms.get k = (s.pos p).alarms.get k := by
  have hgone : (s.offerEnds p || s.learnEnds p) = false := by
    cases ho : s.offerEnds p with
    | true => rw [State.offerEnds_offered ho] at hb; cases hb
    | false =>
      cases hl : s.learnEnds p with
      | true => rw [State.learnEnds_learning hl] at hb; cases hb
      | false => rfl
  rw [s.recordAtEnd_eq, hgone]
  cases hs : s.fallsSilent p with
  | false => exact congrArg (fun a : PerKind SubRecord => a.get k) (s.learnCounted_alarms p)
  | true =>
    change (Position.madeMissing s.seq.frameNumber (s.pos p)).alarms.get k = _
    unfold Position.madeMissing
    dsimp only
    split
    · rfl
    · rw [PerKind.get_put, if_neg hk]

theorem Engine.markHistory_busy {e : Engine} {w : InFlight} (h : e = .busy w) : e.markHistory = .busy { w with historyMark := true } := by
  rw [h]
  rfl

/-- The host-silence watch at a change among RUN, PARK and TEST (R160). -/
theorem ControlPort.changeMode_running (c : ControlPort) {old new : Mode} (hold : old ≠ .config) (hnew : new ≠ .config) :
    c.changeMode old new =
      if new = .test then { c with silenceTimer := false, hostSilent := false }
      else if old = .test then { c with silenceTimer := c.silenceLimit != 0 } else c := by
  unfold ControlPort.changeMode watchRuns
  cases old <;> cases new <;> simp_all

/-! ## The change, whole (R168) -/

/-- Settles O41: the blocks' work, the change of mode, then the start of a frame under the new mode. -/
theorem changeAmongRunParkTest : Obligations.ChangeAmongRunParkTest := by
  unfold Obligations.ChangeAmongRunParkTest
  intro s m hlen hm ht hp hnew
  have hsent := s.beaconSent_eq
  have hstate := s.beaconSent_state
  have hcases := s.beaconSent_pos_cases
  obtain ⟨a, hworked, hwork⟩ := State.frameEndWork_worked (s := s.beaconSent) (s.beaconSent_length.trans hlen)
  have hentered := s.beaconSent.frameEndWork.modeEntered_eq m
  obtain ⟨b, hstarted⟩ := (s.beaconSent.frameEndWork.modeEntered m).startFrame_started
  have hend : s.frameEnd = (s.beaconSent.frameEndWork.modeEntered m).startFrame := by
    rw [State.frameEnd, hp]
    cases m with
    | config => exact absurd rfl hnew
    | run | park | test => rfl
  refine ⟨(s.beaconSent.frameEndWork.modeEntered m).startFrame, b, hend ▸ exec_frameEnd hm ht,
    hend ▸ exec_modeChange hm ht hp, ?_⟩
  have hoff : s.seq.txKey = false → s.beaconSent = s := State.beaconSent_of_off
  generalize (s.beaconSent.frameEndWork.modeEntered m).startFrame = t at hstarted
  generalize s.beaconSent.frameEndWork.modeEntered m = n at hentered hstarted
  generalize s.beaconSent.frameEndWork = w at hwork hentered
  generalize s.beaconSent = e at hsent hstate hcases hworked hwork hoff
  have hmodes : n.modes = ⟨m, none, s.modes.load⟩ := by rw [hentered.frame, hwork, hworked.frame, hsent]
  have hmode : n.modes.mode = m := congrArg ModeController.mode hmodes
  have hseq : n.seq = { s.seq with txKey := false, txData := if s.seq.txKey then [] else s.seq.txData } := by
    rw [hentered.frame, hwork, hworked.frame, hsent]
  have hreoffers : n.join.reoffers = s.join.reoffers := by rw [hentered.frame, hwork, hworked.frame, hsent]
  have hfilters : n.join.filters = s.join.filters := by rw [hentered.frame, hwork, hworked.frame, hsent]
  have hlink : n.link.ackMap = s.link.heardMap := by
    rw [hentered.frame, hwork, hsent]
    rfl
  have hengine : t.engine = (s.engine.voidedFor e.gone).markHistory := by
    rw [hstarted.frame, hentered.frame, hwork, hworked.frame]
    dsimp only
    rw [hsent]
  have hpos : ∀ p < 32, n.pos p = (e.recordAtEnd p).emptyWindow := fun p hp => by
    rw [hentered.pos, ← hworked.pos p hp]
    exact congrArg Position.emptyWindow (State.pos_congr (by rw [hwork]) p)
  have hstore : t.store = (a.store.take (.mode m .command) 1).1 := by
    have hts : t.store = n.store := by rw [hstarted.frame]
    rw [hts, hentered.store, hwork]
  have hconds : t.conds = n.conds := by rw [hstarted.frame]
  have hreply : a.store.reply = s.store.reply := by rw [hworked.reply, hsent]
  have hreadings : a.store.readings = s.store.readings := by rw [hworked.readings, hsent]
  have hmask : a.conds.mask = s.conds.mask := by rw [hworked.mask, hsent]
  refine ⟨?frame, ?vehicle, ?low, ?link, ?ack, ?joinOpen, ?down, hstarted.assigned_eq, ?offers, fun p hp => ?windows,
    fun hidle => ?idle, fun w hw => ?busy, fun hkey => ?off, ?readings, ?reply, ?mask⟩
  case frame =>
    have hlamp : t.lampRule = n.lamp := hstarted.lampRule_eq.trans (congrArg State.lamp hentered.frame).symm
    rw [hlamp, ← ControlPort.changeMode_running s.port hm hnew]
    obtain ⟨rs, cs, g, l, st, cd, w', hshape⟩ : ∃ rs cs g l st cd w', n = { s with
        modes := ⟨m, none, s.modes.load⟩
        seq := { s.seq with txKey := false, txData := if s.seq.txKey then [] else s.seq.txData }
        link := ⟨0#32, 0#32, JoinMarks.none, s.link.heardMap⟩, join := { s.join with candidates := cs }, positions := rs
        engine := g, lamp := l, port := s.port.changeMode s.modes.mode m, store := st, conds := cd, joinWork := w' } := by
      rw [hentered.frame, hwork, hworked.frame, hsent]
      exact ⟨_, _, _, _, _, _, _, rfl⟩
    have hframe := hstarted.frame
    rw [hshape] at hframe ⊢
    generalize t.positions = ps at hframe ⊢
    rw [hframe]
  case vehicle => rw [hstarted.vehicleCode, hseq]
  case low => rw [hstarted.frameLow, hseq]
  case link => rw [hstarted.linkMode, hmode]
  case ack => rw [hstarted.ackMap, hlink]
  case joinOpen => rw [hstarted.joinOpen (hmode ▸ hnew), hmode, hfilters]
  case down => rw [hstarted.downlink, hmode, hseq]
  case offers => rw [hstarted.offers_eq, hreoffers]
  case windows =>
    obtain ⟨-, -, halarms, hwheel⟩ := hstarted.bindings p
    rw [halarms, hwheel, hpos p hp]
    refine ⟨rfl, fun k hk hb => ?_⟩
    refine (State.recordAtEnd_alarms (s := e) (by rw [hstate]; exact hb) hk).trans ?_
    rcases hcases p with h | ⟨-, o, h⟩ <;> rw [h]
  case idle => rw [hengine, hidle]; rfl
  case busy => rw [hengine, hw]; exact ⟨_, rfl⟩
  case reply => rw [hstore, NoticeStore.take_reply, hreply]
  case readings => rw [hstore, NoticeStore.take_readings, hreadings]
  case mask =>
    rw [hconds, hentered.mask, hwork]
    exact hmask
  case off =>
    intro gone record
    obtain rfl := hoff hkey
    refine ⟨fun w hw => ?marked, fun hnt p hp => ?untested, fun htest p hp => ?tested, fun hfew => ?candidates,
      fun hfew hserved hroom => ?notices⟩
    case marked =>
      rw [hengine]
      exact Engine.markHistory_busy hw
    case untested =>
      rw [hstarted.untested (hmode ▸ hnt), hpos p hp]
      rfl
    case tested =>
      rw [hstarted.tested (hmode ▸ htest), hpos p hp, hseq]
      rfl
    case candidates =>
      have hcandidates : t.join.candidates = a.join.candidates := by rw [hstarted.frame, hentered.frame, hwork]
      rw [hcandidates, hworked.candidates, take_eight (e.young_length.trans hfew)]
    case notices =>
      obtain ⟨hc, hholds⟩ := hworked.room hfew hserved (by omega)
      have hkept := hholds.elim NoticeStore.Holds.length_eq fun h => by
        rw [h.length_eq, List.length_append, List.length_append, List.length_append, List.length_append, Nat.add_comm _ e.silenceNotices.length]
      have hfilter := List.length_filter_le (fun x => !x.leavesWith e.gone) e.store.entries
      rw [NoticeStore.entriesWithout_eq, List.length_append, List.length_append] at hkept
      have hfits : a.store.entries.length < 8 := by omega
      refine ⟨hconds.trans ((hentered.room (by rw [hwork]; exact hfits)).trans ?_), ?_⟩
      · rw [hwork]
        exact hc
      · rw [hstore, NoticeStore.take_shown_room rfl hfits]
        refine hholds.imp (fun h => ?_) (fun h => ?_)
        · rw [h.shown_eq, List.append_assoc _ e.silenceNotices]
          rfl
        · rw [h.shown_eq, ← List.append_assoc _ (e.offerNotices ++ e.learnNotices)]
          rfl

end Sys2Proof.Machine

/-! PROOF. A change out of CONFIG (R14, R21, R24, R160, R167). -/

namespace Sys2Proof.Machine

/-! ## What a store shows does not depend on the message it chooses (R137, R141) -/

theorem NoticeStore.take_shown_congr {st u : NoticeStore} (h : u.entries = st.entries) (n : Notice) (p : Nat) :
    (u.take n p).1.shown = (st.take n p).1.shown := by
  have hu := u.take_cases n p
  have hs := st.take_cases n p
  rw [h] at hu
  rcases hu with ⟨hu1, hu⟩ | ⟨hu1, hu2, hu⟩ | ⟨hu1, hu2, hu⟩ <;> rcases hs with ⟨hs1, hs⟩ | ⟨hs1, hs2, hs⟩ | ⟨hs1, hs2, hs⟩
  case inl.inl => rw [hu, hs, NoticeStore.shown_enter, NoticeStore.shown_enter]; rfl
  case inr.inl.inr.inl => rw [hu, hs, NoticeStore.shown_enter, NoticeStore.shown_enter]; rfl
  case inr.inr.inr.inr => rw [hu, hs]; rfl
  all_goals omega

theorem NoticeStore.take_full_lost {st : NoticeStore} {n : Notice} (hn : n.isReading = false) (h : 8 ≤ st.entries.length) (p : Nat) :
    (st.take n p).2 = true := by
  have hall : st.entries.filter (fun e => !n.replaces e) = st.entries :=
    List.filter_eq_self.mpr fun e _ => by rw [Notice.replaces_of_not_reading hn]; rfl
  have hcases := st.take_cases n p
  rw [hall] at hcases
  rcases hcases with ⟨hlt, _⟩ | ⟨_, _, ht⟩ | ⟨_, _, ht⟩
  · omega
  · rw [ht]
  · rw [ht]

theorem NoticeStore.take_busy_entries {st : NoticeStore} {n : Notice} (hn : n.isReading = false) (hr : st.reply ≠ .empty)
    (h : st.entries.length < 8) (p : Nat) : (st.take n p).1.entries = st.entries ++ [⟨n, p, .waiting⟩] := by
  have hall : st.entries.filter (fun e => !n.replaces e) = st.entries :=
    List.filter_eq_self.mpr fun e _ => by rw [Notice.replaces_of_not_reading hn]; rfl
  have hbusy : ¬((st.withEntries st.entries).transmitter = .idle ∧ (st.withEntries st.entries).reply = .empty) :=
    fun hfree => hr hfree.2
  rw [(NoticeStore.take_room h p).2, hall, NoticeStore.enter_of_busy hbusy]
  rfl

/-! ## The records on leaving CONFIG (R14, R91) -/

/-- A record on leaving CONFIG in a frame. -/
def Position.leftConfig (frame : FrameNo) (r : Position) : Position :=
  { r with wheel := { r.wheel with history := [] }, stateEntry := if r.state = .assigned then frame else r.stateEntry }

theorem Position.reenter_emptyWindow (frame : FrameNo) (r : Position) : r.emptyWindow.reenter frame = r.leftConfig frame := by
  unfold Position.reenter Position.leftConfig
  obtain ⟨state, id, entry, wheel, offer, learn, alarms⟩ := r
  cases state <;> rfl

theorem State.positions_ext {s t : State} (hlen : t.positions.length = s.positions.length) (h : ∀ p, t.pos p = s.pos p) :
    t.positions = s.positions := by
  refine List.ext_getElem hlen fun i h1 h2 => ?_
  have hi := h i
  simp only [State.pos, List.getD_eq_getElem?_getD, List.getElem?_eq_getElem h1, List.getElem?_eq_getElem h2] at hi
  exact hi

/-! ## The change, whole (R167) -/

/-- What a change out of CONFIG moves, with the first beacon (R14, R21, R91, R160, R167). -/
structure State.LeftConfig (s : State) (m : Mode) (t : State) (b : Beacon) : Prop where
  frame : t = { s with
    modes := { s.modes with mode := m, pending := none }, port := s.port.changeMode s.modes.mode m
    seq := { s.seq with
      frameNumber := s.seq.frameNumber + 1#32
      timer := .running (if m = .park then 8 * s.seq.period else s.seq.period)
      beacon := some b, txKey := decide (m ≠ .test), txData := if m = .test then [] else b.bytes }
    join := { s.join with reoffers := [] }
    positions := s.positions.map (Position.leftConfig (s.seq.frameNumber + 1#32))
    engine := s.engine.markHistory, lamp := t.lampRule, store := t.store, conds := t.conds, joinWork := .due }
  vehicleCode : b.vehicleCode = s.seq.vehicleCode
  frameLow : b.frameLow = (s.seq.frameNumber + 1#32).setWidth 16
  linkMode : b.linkMode = m
  ackMap : b.ackMap = s.link.ackMap
  joinOpen : b.joinOpen = (decide (m ≠ .park) && s.join.filters.any AcceptFilter.enable)
  downlink : b.downlink = if m = .park then some .park else s.seq.downlink
  assigned : ∀ p < 32, b.assignedMap.getLsbD p = (s.pos p).state.hasId
  offers : s.join.reoffers = [] → b.offers = []
  store : t.store = (s.store.take (.mode m .command) 1).1
  mask : t.conds.mask = s.conds.mask
  set : ∀ d, condIn d t.conds.set = (condIn d s.conds.set || (d == .noticeLost && (s.store.take (.mode m .command) 1).2))
  room : s.store.entries.length < 8 → t.conds = s.conds

theorem State.leaveConfig_left {s : State} {m : Mode} (hm : m ≠ .config) (hfree : ∀ r ∈ s.positions, r.state ≠ .offered) :
    ∃ b, s.LeftConfig m (s.leaveConfig m) b := by
  obtain ⟨b, hstarted⟩ := (s.emptyWindows.enterMode m).startFrame_started
  have hpos : ∀ p, (s.emptyWindows.enterMode m).pos p = (s.pos p).emptyWindow := s.emptyWindows_pos
  have hno : ∀ p, (s.pos p).state ≠ .offered := fun p => by
    rcases Nat.lt_or_ge p s.positions.length with h | h
    · exact hfree _ (State.pos_mem h)
    · rw [State.pos_of_le h]
      decide
  have hpositions : (s.emptyWindows.enterMode m).startFrame.positions = s.positions.map Position.emptyWindow :=
    State.positions_ext (s := s.emptyWindows.enterMode m) hstarted.length fun p => by
      rcases hstarted.pos_cases p with h | ⟨h, -⟩
      · exact h
      · rw [hpos] at h
        exact absurd h (hno p)
  have hrule : (s.emptyWindows.enterMode m).startFrame.lampRule = (s.emptyWindows.enterMode m).lamp := hstarted.lampRule_eq
  have hofferless : s.join.reoffers = [] → b.offers = [] := fun hnone => by
    have hown : allPositions.filterMap (s.emptyWindows.enterMode m).ownEntry = [] :=
      List.filterMap_eq_nil_iff.mpr fun p _ => by
        unfold State.ownEntry
        rw [hpos]
        exact if_neg (hno p)
    rw [hstarted.offers]
    have hids : (s.emptyWindows.enterMode m).join.reoffers = [] := hnone
    rw [hids]
    exact congrArg (fun own => List.take 4 (own ++ [])) hown
  have hassigned : ∀ p < 32, b.assignedMap.getLsbD p = (s.pos p).state.hasId := fun p hp => by
    rw [hstarted.assigned p hp, hpos]
    rfl
  have hframe := hstarted.frame
  have hleft : s.leaveConfig m = (s.emptyWindows.enterMode m).startFrame.reenterAssigned.queueNotice (.mode m .command) 1 := rfl
  generalize (s.emptyWindows.enterMode m).startFrame = u at hframe hpositions hrule hleft
  have hustore : u.reenterAssigned.store = s.store := by
    change u.store = s.store
    rw [hframe]
    rfl
  have huconds : u.reenterAssigned.conds = s.conds := by
    change u.conds = s.conds
    rw [hframe]
    rfl
  obtain ⟨set, hset, hq⟩ := u.reenterAssigned.queueNotice_spec (.mode m .command) 1
  have hroom : s.store.entries.length < 8 → (s.leaveConfig m).conds = s.conds := fun hlen => by
    rw [hleft, State.queueNotice_room (by rw [hustore]; exact hlen)]
    exact huconds
  rw [hustore] at hq
  rw [hustore, huconds] at hset
  rw [hq] at hleft
  have hlampRule : (s.leaveConfig m).lampRule = u.lampRule := by
    refine State.lampRule_congr (by rw [hleft]; rfl) (by rw [hleft]; rfl) (by rw [hleft]; rfl) ?_
    rw [hleft]
    exact map_map_field _ _ (fun r => by unfold Position.reenter; split <;> rfl) _
  have humask : u.reenterAssigned.conds.mask = s.conds.mask := by rw [huconds]
  generalize s.leaveConfig m = t at hleft hroom hlampRule
  refine ⟨b, ?frame, hstarted.vehicleCode, hstarted.frameLow, hstarted.linkMode, hstarted.ackMap, hstarted.joinOpen hm,
    hstarted.downlink, hassigned, hofferless, by rw [hleft], by rw [hleft]; exact humask,
    by rw [hleft]; exact hset, hroom⟩
  case frame =>
    have hreentered : u.reenterAssigned.positions = s.positions.map (Position.leftConfig (s.seq.frameNumber + 1#32)) := by
      have hnumber : u.seq.frameNumber = s.seq.frameNumber + 1#32 := by
        rw [hframe]
        rfl
      change u.positions.map (Position.reenter u.seq.frameNumber) = _
      rw [hpositions, hnumber, List.map_map]
      exact List.map_congr_left fun r _ => Position.reenter_emptyWindow _ r
    have hstore := congrArg State.store hleft
    have hconds := congrArg State.conds hleft
    rw [hlampRule, hrule, hstore, hconds, ← hreentered]
    conv_lhs => rw [hleft]
    generalize u.positions = rs at hframe
    rw [hframe]
    rfl

/-- Settles O29: SET_MODE's owner is the change out of CONFIG, made while the reply is formed. -/
theorem leavingConfigStartsAFrame : Obligations.LeavingConfigStartsAFrame := by
  unfold Obligations.LeavingConfigStartsAFrame
  intro s m hready hc hp hm ⟨x, hx, hpresent⟩ hfree
  have howner := ownSetMode_leaves (s := s.taking) (m := m) hp hc hm (List.any_eq_true.mpr ⟨x, hx, hpresent⟩)
  have hexec := exec_instr_effect .setMode [m.code] hready rfl rfl howner
  obtain ⟨b, hleft⟩ := State.leaveConfig_left (s := s.taking) hm hfree
  generalize s.taking.leaveConfig m = t at hexec hleft
  have hforming : s.taking.store.reply ≠ .empty := nofun
  have hreply : t.store.reply = .forming := by rw [hleft.store, NoticeStore.take_reply]; rfl
  have hrule : State.lampRule { t with store := t.store.replied (Command.code .setMode) ⟨.done, none, [m.code, 0#8]⟩ } = t.lampRule :=
    State.lampRule_congr rfl rfl rfl rfl
  refine ⟨_, b, hexec, ?frame, fun hidle => ?idle, fun w hw => ?busy, hleft.vehicleCode, hleft.frameLow, hleft.linkMode,
    hleft.assigned, hleft.ackMap, hleft.joinOpen, hleft.downlink, hleft.offers, rfl, ?readings, hleft.mask, ?shown,
    fun hroom => ⟨hleft.room hroom, ?entries⟩, fun hfull => ?full⟩
  case frame =>
    have hport : s.taking.port.changeMode s.taking.modes.mode m = { s.port with
        receiver := .hunt, gapTimer := false, hostSilent := false
        silenceTimer := decide (m ≠ .test) && s.port.silenceLimit != 0 } := by
      change s.taking.port.changeMode s.modes.mode m = _
      rw [hc]
      cases m with
      | config => exact absurd rfl hm
      | run | park | test => rfl
    have hmodes : ({ s.taking.modes with mode := m, pending := none } : ModeController) = { s.modes with mode := m } := by
      rw [← hp]
      rfl
    have hframe := hleft.frame
    rw [hport, hmodes] at hframe
    rw [hrule]
    generalize t.lampRule = l at hframe
    generalize t.store.replied (Command.code .setMode) ⟨.done, none, [m.code, 0#8]⟩ = st
    rw [hframe]
    rfl
  case idle =>
    have hengine : t.engine = s.engine.markHistory := congrArg State.engine hleft.frame
    exact hengine.trans (by rw [hidle]; rfl)
  case busy =>
    have hengine : t.engine = s.engine.markHistory := congrArg State.engine hleft.frame
    exact hengine.trans (by rw [hw]; rfl)
  case readings =>
    change t.store.readings = _
    rw [hleft.store, NoticeStore.take_readings]
    rfl
  case shown =>
    change t.store.shown = _
    rw [hleft.store]
    exact NoticeStore.take_shown_congr (st := s.store) (u := s.taking.store) rfl _ _
  case entries =>
    change t.store.entries = _
    rw [hleft.store, NoticeStore.take_busy_entries rfl hforming hroom]
    rfl
  case full =>
    have hlost := NoticeStore.take_full_lost (st := s.taking.store) (n := .mode m .command) rfl hfull 1
    refine ⟨?_, fun d hd => ?_⟩
    · refine (hleft.set .noticeLost).trans ?_
      rw [hlost, beq_self_eq_true, Bool.and_self, Bool.or_true]
    · refine (hleft.set d).trans ?_
      rw [beq_eq_false_iff_ne.mpr hd, Bool.false_and, Bool.or_false]
      rfl

end Sys2Proof.Machine

/-! PROOF. What the ten kinds of a completion leave in the store: the raises withdrawn and the ALARM notices that follow, in kind
order (R106, R111 to R115). -/

namespace Sys2Proof.Machine

/-! ## What a judged kind tells (R111, R112, R114) -/

/-- The ALARM notice of an event of a position's kind, with the record's gauge and temperature (R115). -/
def State.alarmNote (s : State) (p : Nat) (k : Kind) (f : FrameNo) (x : AlarmEvent) : Option (Notice × Nat) :=
  alarmOfClass (s.kinds.get k).cls (.alarm p k x f (s.pos p).wheel.coldGauge (s.pos p).wheel.temperature)

/-- The store and the conditions after an event of a position's kind: a clearing withdraws the waiting raises, and is told when
there were none (R111, R112, R114). -/
def State.tell (s : State) (p : Nat) (k : Kind) (f : FrameNo) : Option AlarmEvent → State
  | none => s
  | some .raised => s.queueAll (s.alarmNote p k f .raised).toList
  | some .reRaised => s.queueAll (s.alarmNote p k f .reRaised).toList
  | some .cleared =>
      if (s.store.withdraw (Notice.raiseFor p k)).2 = 0 then
        (s.withdraw (Notice.raiseFor p k)).queueAll (s.alarmNote p k f .cleared).toList
      else s.withdraw (Notice.raiseFor p k)

theorem State.tell_cleared (s : State) (p : Nat) (k : Kind) (f : FrameNo) : s.tell p k f (some .cleared) =
    if (s.store.withdraw (Notice.raiseFor p k)).2 = 0 then
      (s.withdraw (Notice.raiseFor p k)).queueAll (s.alarmNote p k f .cleared).toList
    else s.withdraw (Notice.raiseFor p k) := rfl

section
variable {s : State} {p : Nat} {k : Kind} {f : FrameNo}

theorem State.queueAlarm_note (s : State) (p : Nat) (k : Kind) (f : FrameNo) (a : SubRecord) (x : AlarmEvent) :
    (s.setAlarm p k a).queueAlarm p k x f =
      { s.queueAll (s.alarmNote p k f x).toList with positions := (s.setAlarm p k a).positions } := by
  rw [State.queueAlarm_all, State.setAlarm_wheel]
  exact State.queueAll_withPositions s _ _

theorem State.becomeInactive_tell : s.becomeInactive p k f =
    { s.tell p k f (some .cleared) with positions := (s.becomeInactive p k f).positions } := by
  rw [State.becomeInactive_positions]
  unfold State.becomeInactive State.tell
  dsimp only
  split
  · exact State.queueAlarm_note (s.withdraw (Notice.raiseFor p k)) p k f _ .cleared
  · rfl

theorem State.becomeActive_tell : s.becomeActive p k f =
    { s.tell p k f (some .raised) with positions := (s.becomeActive p k f).positions } := by
  rw [State.becomeActive_positions]
  exact State.queueAlarm_note s p k f _ .raised

theorem State.setAlarm_tell (a : SubRecord) : s.setAlarm p k a = { s.tell p k f none with positions := (s.setAlarm p k a).positions } :=
  rfl

/-- A kind that meets its verdict moves its sub-record, and what its event tells (R107 to R114). -/
theorem State.judgeKind_tell (hp : p < s.positions.length) (v : Option Verdict) : s.judgeKind p f k v =
    { s.tell p k f (SubRecord.event (s.kinds.get k) k ((s.pos p).alarms.get k) v) with
      positions := (s.judgeKind p f k v).positions } := by
  cases v with
  | none => rfl
  | some v =>
    by_cases hsame : conditionOf v ((s.pos p).alarms.get k).active = ((s.pos p).alarms.get k).active
    · have hjudged : s.judgeKind p f k (some v) = s.standing p k f := if_pos hsame
      rw [hjudged, SubRecord.event, if_pos (by exact hsame)]
      unfold State.standing
      dsimp only
      split
      · rw [State.raiseAgain, State.setAlarm_setAlarm hp]
        exact (State.queueAlarm_note s p k f _ .reRaised).trans (by rw [State.queueAlarm_positions]; rfl)
      · exact State.setAlarm_tell _
    · have hjudged : s.judgeKind p f k (some v) = s.disagreeing p k f := if_neg hsame
      rw [hjudged, SubRecord.event, if_neg (by exact hsame), State.disagreeing_eq]
      split
      · cases ((s.pos p).alarms.get k).active with
        | true => exact State.becomeInactive_tell
        | false => exact State.becomeActive_tell
      · exact State.setAlarm_tell _

theorem State.tell_spec (s : State) (p : Nat) (k : Kind) (f : FrameNo) (x : Option AlarmEvent) : ∃ st set,
    s.tell p k f x = { s with store := st, conds := { s.conds with set := set } } ∧
      st.reply = s.store.reply ∧ st.readings = s.store.readings ∧ ∀ d, d ≠ .noticeLost → condIn d set = condIn d s.conds.set := by
  have hqueue : ∀ (u : State) (ns : List (Notice × Nat)), ∃ st set,
      u.queueAll ns = { u with store := st, conds := { u.conds with set := set } } ∧
        st.reply = u.store.reply ∧ st.readings = u.store.readings ∧ ∀ d, d ≠ .noticeLost → condIn d set = condIn d u.conds.set :=
    fun u ns => by
      obtain ⟨set, hset, hq⟩ := u.queueAll_spec ns
      exact ⟨_, set, hq, u.store.takeAll_reply ns, u.store.takeAll_readings ns, hset⟩
  cases x with
  | none => exact ⟨s.store, s.conds.set, rfl, rfl, rfl, fun _ _ => rfl⟩
  | some x =>
    cases x with
    | raised => exact hqueue s _
    | reRaised => exact hqueue s _
    | cleared =>
      rw [State.tell_cleared]
      split
      · exact hqueue (s.withdraw (Notice.raiseFor p k)) _
      · exact ⟨_, s.conds.set, rfl, rfl, rfl, fun _ _ => rfl⟩

theorem NoticeStore.withdraw_none_iff (st : NoticeStore) (g : Notice → Bool) :
    (st.withdraw g).2 = 0 ↔ ∀ e ∈ st.entries, (e.waits && g e.notice) = false := by
  have hle := List.length_filter_le (fun e => !(e.waits && g e.notice)) st.entries
  have hcount : (st.withdraw g).2 = st.entries.length - (st.entries.filter (fun e => !(e.waits && g e.notice))).length := rfl
  rw [hcount]
  constructor
  · intro h
    have hall := List.length_filter_eq_length_iff.mp (show (st.entries.filter (fun e => !(e.waits && g e.notice))).length = _ by omega)
    exact fun e he => Eq.mp (Bool.not_eq_true' _) (hall e he)
  · intro h
    rw [List.filter_eq_self.mpr fun e he => by simp [h e he]]
    exact Nat.sub_self _

end

/-! ## The kinds, one after the other (R106) -/

/-- Some kinds of a position meet their verdicts, one after the other. -/
def State.judgeEach (s : State) (p : Nat) (f : FrameNo) (v : Kind → Option Verdict) (ks : List Kind) : State :=
  ks.foldl (fun t k => t.judgeKind p f k (v k)) s

theorem State.judgeAlarms_eq (s : State) (p : Nat) (f : FrameNo) (v : Kind → Option Verdict) :
    s.judgeAlarms p f v = (s.judgeEach p f v Kind.all).judgeLamp := rfl

/-- The sub-record a kind's verdict leaves (R107 to R112). -/
def State.judgedAs (s : State) (p : Nat) (v : Kind → Option Verdict) (k : Kind) : SubRecord :=
  SubRecord.judged (s.kinds.get k) k ((s.pos p).alarms.get k) (v k)

/-- The event of a kind's verdict (R111, R112, R114). -/
def State.eventOf (s : State) (p : Nat) (v : Kind → Option Verdict) (k : Kind) : Option AlarmEvent :=
  SubRecord.event (s.kinds.get k) k ((s.pos p).alarms.get k) (v k)

/-- What the verdicts of some kinds have done to the records and beside them. -/
structure State.KindsJudged (s : State) (p : Nat) (v : Kind → Option Verdict) (ks : List Kind) (t : State) : Prop where
  frame : t = { s with positions := t.positions, store := t.store, conds := t.conds }
  length : t.positions.length = s.positions.length
  others : ∀ q, q ≠ p → t.pos q = s.pos q
  record : t.pos p = { s.pos p with alarms := (t.pos p).alarms }
  alarms : ∀ k, (t.pos p).alarms.get k = if k ∈ ks then s.judgedAs p v k else (s.pos p).alarms.get k
  reply : t.store.reply = s.store.reply
  readings : t.store.readings = s.store.readings
  mask : t.conds.mask = s.conds.mask
  set : ∀ d, d ≠ .noticeLost → condIn d t.conds.set = condIn d s.conds.set

section
variable {s t : State} {p : Nat} {f : FrameNo} {v : Kind → Option Verdict}

theorem State.judgeKind_judged (hp : p < s.positions.length) (k : Kind) : s.KindsJudged p v [k] (s.judgeKind p f k (v k)) := by
  have hpos := fun q => State.judgeKind_pos (f := f) (k := k) hp (v k) q
  have hlength := State.judgeKind_length (f := f) (k := k) hp (v k)
  have htell := State.judgeKind_tell (f := f) (k := k) hp (v k)
  obtain ⟨st, set, hspec, hreply, hreadings, hset⟩ := s.tell_spec p k f (SubRecord.event (s.kinds.get k) k ((s.pos p).alarms.get k) (v k))
  rw [hspec] at htell
  generalize s.judgeKind p f k (v k) = t at hpos hlength htell
  have hself : t.pos p = { s.pos p with alarms := (s.pos p).alarms.put k (s.judgedAs p v k) } := (hpos p).trans (if_pos rfl)
  have hstore : t.store = st := congrArg State.store htell
  have hconds : t.conds = { s.conds with set := set } := congrArg State.conds htell
  refine ⟨by rw [hstore, hconds]; exact htell, hlength, fun q hq => (hpos q).trans (if_neg hq), by rw [hself], fun j => ?_,
    by rw [hstore, hreply], by rw [hstore, hreadings], by rw [hconds], fun d hd => by rw [hconds]; exact hset d hd⟩
  rw [hself, PerKind.get_put]
  by_cases hj : j = k
  · rw [if_pos hj, if_pos (by simp [hj]), hj]
  · rw [if_neg hj, if_neg (by simp [hj])]

/-- The verdicts of some kinds, and those of the others after them. -/
theorem State.KindsJudged.trans {k : Kind} {ks : List Kind} {u : State} (h : s.KindsJudged p v [k] t) (hk : k ∉ ks)
    (h' : t.KindsJudged p v ks u) : s.KindsJudged p v (k :: ks) u := by
  have hkinds : t.kinds = s.kinds := by rw [h.frame]
  refine ⟨?_, h'.length.trans h.length, fun q hq => (h'.others q hq).trans (h.others q hq), ?_, fun j => ?_, h'.reply.trans h.reply,
    h'.readings.trans h.readings, h'.mask.trans h.mask, fun d hd => (h'.set d hd).trans (h.set d hd)⟩
  · have hframe := h'.frame
    obtain ⟨rs, st, cd, rfl⟩ : ∃ rs st cd, t = { s with positions := rs, store := st, conds := cd } := ⟨_, _, _, h.frame⟩
    exact hframe
  · have hrecord := h'.record
    rw [h.record] at hrecord
    exact hrecord
  · rw [h'.alarms j]
    by_cases hj : j ∈ ks
    · have hne : j ≠ k := fun he => hk (he ▸ hj)
      have hsame : (t.pos p).alarms.get j = (s.pos p).alarms.get j := by rw [h.alarms j, if_neg (by simp [hne])]
      rw [if_pos hj, if_pos (by simp [hj]), State.judgedAs, hkinds, hsame]
      rfl
    · rw [if_neg hj, h.alarms j]
      simp [hj]

theorem State.judgeEach_judged (hp : p < s.positions.length) {ks : List Kind} (hks : ks.Nodup) :
    s.KindsJudged p v ks (s.judgeEach p f v ks) := by
  induction ks generalizing s with
  | nil => exact ⟨rfl, rfl, fun _ _ => rfl, rfl, fun k => by simp [State.judgeEach], rfl, rfl, rfl, fun _ _ => rfl⟩
  | cons k ks ih =>
    obtain ⟨hk, hks⟩ := List.nodup_cons.mp hks
    have hone := State.judgeKind_judged (s := s) (f := f) (v := v) hp k
    exact hone.trans hk (ih (by rw [hone.length]; exact hp) hks)

end

end Sys2Proof.Machine

/-! PROOF. The store after the ten kinds of a completion, with room for what they tell (R106, R114, R115). -/

namespace Sys2Proof.Machine

section
variable {s : State} {p : Nat} {k : Kind} {f : FrameNo} {kept : List Entry} {new : List (Notice × Nat)}

theorem State.alarmNote_some {x : AlarmEvent} {y : Notice × Nat} (h : s.alarmNote p k f x = some y) :
    ∃ c t, y.1 = .alarm p k x f c t := ⟨_, _, alarmOfClass_some h⟩

/-- What an event tells, when the raises that wait are these entries' (R111, R112, R114). -/
def State.eventNote (s : State) (p : Nat) (k : Kind) (f : FrameNo) (es : List Entry) : Option AlarmEvent → Option (Notice × Nat)
  | none => none
  | some x => if x = .cleared ∧ (∃ e ∈ es, e.waitingRaise p k = true) then none else s.alarmNote p k f x

theorem State.eventNote_of (s : State) (p : Nat) (k : Kind) (f : FrameNo) (es : List Entry) (x : AlarmEvent) :
    s.eventNote p k f es (some x) =
      if x = .cleared ∧ (∃ e ∈ es, e.waitingRaise p k = true) then none else s.alarmNote p k f x := rfl

theorem State.eventNote_some {es : List Entry} {x : Option AlarmEvent} {y : Notice × Nat} (h : s.eventNote p k f es x = some y) :
    ∃ z c t, y.1 = .alarm p k z f c t := by
  cases x with
  | none => cases h
  | some x =>
    rw [State.eventNote_of] at h
    split at h
    · cases h
    · exact ⟨x, State.alarmNote_some h⟩

theorem toList_not_reading {o : Option (Notice × Nat)} (h : ∀ y, o = some y → ∃ z c t, y.1 = .alarm p k z f c t) :
    ∀ y ∈ o.toList, y.1.isReading = false := by
  intro y hy
  obtain ⟨z, c, t, hn⟩ := h y (Option.mem_toList.mp hy)
  rw [hn]
  rfl

/-- An event's notice stands behind the others, in a store with room. -/
theorem State.queueNote_holds (h : s.store.Holds kept new) {o : Option (Notice × Nat)}
    (ho : ∀ y, o = some y → ∃ z c t, y.1 = .alarm p k z f c t) (hroom : s.store.entries.length + o.toList.length ≤ 8) :
    (s.queueAll o.toList).conds = s.conds ∧ (s.queueAll o.toList).store.Holds kept (new ++ o.toList) := by
  rw [State.queueAll_room (toList_not_reading ho) hroom]
  exact ⟨rfl, h.takeAll (toList_not_reading ho) hroom⟩

/-- Which raises wait is known from the old entries, when no new notice is one. -/
theorem NoticeStore.Holds.waitingRaise_iff {st : NoticeStore} (h : st.Holds kept new) (hnew : ∀ x ∈ new, x.1.raiseFor p k = false) :
    (st.withdraw (Notice.raiseFor p k)).2 = 0 ↔ ¬∃ e ∈ kept, e.waitingRaise p k = true := by
  obtain ⟨added, hes, hmap⟩ := h.split
  rw [NoticeStore.withdraw_none_iff, hes]
  constructor
  · rintro hnone ⟨e, he, hw⟩
    exact Bool.false_ne_true ((hnone e (List.mem_append_left _ he)).symm.trans hw)
  · intro hnone e he
    rcases List.mem_append.mp he with he | he
    · exact Bool.eq_false_iff.mpr fun hw => hnone ⟨e, he, hw⟩
    · have hmem : (e.notice, e.priority) ∈ new := by
        rw [← hmap]
        exact List.mem_map_of_mem (f := fun e : Entry => (e.notice, e.priority)) he
      rw [show e.notice.raiseFor p k = false from hnew _ hmem, Bool.and_false]

/-- What an event of a kind leaves in a store with room (R111, R112, R114, R115). -/
theorem State.tell_holds (h : s.store.Holds kept new) (hnew : ∀ x ∈ new, x.1.raiseFor p k = false) (x : Option AlarmEvent)
    (hroom : s.store.entries.length + (s.eventNote p k f kept x).toList.length ≤ 8) :
    (s.tell p k f x).conds = s.conds ∧ (s.tell p k f x).store.Holds
      (kept.filter (fun e => !(decide (x = some .cleared) && e.waitingRaise p k))) (new ++ (s.eventNote p k f kept x).toList) := by
  have hall : x ≠ some .cleared → kept.filter (fun e => !(decide (x = some .cleared) && e.waitingRaise p k)) = kept := fun hx =>
    List.filter_eq_self.mpr fun e _ => by rw [decide_eq_false hx]; rfl
  have hsome : ∀ z : AlarmEvent, z ≠ .cleared → s.eventNote p k f kept (some z) = s.alarmNote p k f z := fun z hz =>
    if_neg fun hc => hz hc.1
  cases x with
  | none =>
    rw [hall (by simp)]
    exact ⟨rfl, (List.append_nil new).symm ▸ h⟩
  | some x =>
    cases x with
    | raised =>
      rw [hall (by simp)]
      rw [hsome .raised (by simp)] at hroom ⊢
      exact State.queueNote_holds h (fun y hy => ⟨_, State.alarmNote_some hy⟩) hroom
    | reRaised =>
      rw [hall (by simp)]
      rw [hsome .reRaised (by simp)] at hroom ⊢
      exact State.queueNote_holds h (fun y hy => ⟨_, State.alarmNote_some hy⟩) hroom
    | cleared =>
      have hkept : (fun e : Entry => !(decide (some AlarmEvent.cleared = some AlarmEvent.cleared) && e.waitingRaise p k)) =
          fun e => !(e.waits && e.notice.raiseFor p k) := funext fun e => by
        rw [decide_eq_true rfl, Bool.true_and]
        rfl
      have hwithdrawn := h.withdraw (f := Notice.raiseFor p k) hnew
      rw [State.tell_cleared, hkept]
      by_cases hwaits : ∃ e ∈ kept, e.waitingRaise p k = true
      · have hnone : s.eventNote p k f kept (some .cleared) = none := if_pos ⟨rfl, hwaits⟩
        rw [if_neg (fun hc => (h.waitingRaise_iff hnew).mp hc hwaits), hnone, Option.toList_none, List.append_nil]
        exact ⟨rfl, hwithdrawn⟩
      · have htold : s.eventNote p k f kept (some .cleared) = s.alarmNote p k f .cleared := if_neg fun hc => hwaits hc.2
        rw [htold] at hroom ⊢
        rw [if_pos ((h.waitingRaise_iff hnew).mpr hwaits)]
        have hlen := s.store.withdraw_length (Notice.raiseFor p k)
        exact State.queueNote_holds (s := s.withdraw (Notice.raiseFor p k)) hwithdrawn (fun y hy => ⟨_, State.alarmNote_some hy⟩)
          (le_trans (Nat.add_le_add_right hlen _) hroom)

/-- An entry is a raise of one kind. -/
theorem Entry.waitingRaise_inj {e : Entry} {j : Kind} (h : e.waitingRaise p k = true) (hj : e.waitingRaise p j = true) : k = j := by
  obtain ⟨n, pr, st⟩ := e
  unfold Entry.waitingRaise at h hj
  cases n <;> simp_all [Notice.raiseFor]

/-- The notices of some kinds' verdicts, in their order (R106, R115). -/
def State.kindNotes (s : State) (p : Nat) (f : FrameNo) (v : Kind → Option Verdict) (es : List Entry) (ks : List Kind) :
    List (Notice × Nat) := ks.filterMap (fun k => s.eventNote p k f es (s.eventOf p v k))

/-- The raises of the kinds that were cleared (R114). -/
def State.withdrawn (s : State) (p : Nat) (v : Kind → Option Verdict) (ks : List Kind) (e : Entry) : Bool :=
  ks.any (fun k => decide (s.eventOf p v k = some .cleared) && e.waitingRaise p k)

/-- What the verdicts of some kinds leave in a store with room. -/
theorem State.judgeEach_holds {v : Kind → Option Verdict} {ks : List Kind} (hp : p < s.positions.length) (hks : ks.Nodup)
    (h : s.store.Holds kept new) (hnew : ∀ x ∈ new, ∀ k ∈ ks, x.1.raiseFor p k = false)
    (hroom : s.store.entries.length + (s.kindNotes p f v kept ks).length ≤ 8) :
    (s.judgeEach p f v ks).conds = s.conds ∧ (s.judgeEach p f v ks).store.Holds
      (kept.filter (fun e => !s.withdrawn p v ks e)) (new ++ s.kindNotes p f v kept ks) := by
  induction ks generalizing s kept new with
  | nil =>
    have hnil : kept.filter (fun e => !s.withdrawn p v [] e) = kept := List.filter_eq_self.mpr fun _ _ => rfl
    rw [hnil]
    exact ⟨rfl, (List.append_nil new).symm ▸ h⟩
  | cons k ks ih =>
    obtain ⟨hk, hks⟩ := List.nodup_cons.mp hks
    have hjudged := State.judgeKind_judged (s := s) (f := f) (v := v) hp k
    have htell := State.judgeKind_tell (f := f) (k := k) hp (v k)
    have hnotes : s.kindNotes p f v kept (k :: ks) =
        (s.eventNote p k f kept (s.eventOf p v k)).toList ++ s.kindNotes p f v kept ks := by
      unfold State.kindNotes
      rw [List.filterMap_cons]
      cases s.eventNote p k f kept (s.eventOf p v k) <;> rfl
    rw [hnotes, List.length_append] at hroom
    obtain ⟨hconds, hholds⟩ := State.tell_holds (f := f) h (fun x hx => hnew x hx k (by simp)) (s.eventOf p v k) (by omega)
    have hstep : s.judgeEach p f v (k :: ks) = (s.judgeKind p f k (v k)).judgeEach p f v ks := rfl
    rw [hstep]
    generalize s.judgeKind p f k (v k) = t at hjudged htell
    have htstore := congrArg State.store htell
    have htconds := congrArg State.conds htell
    have hholds : t.store.Holds _ _ := htstore.symm ▸ hholds
    have hkinds : t.kinds = s.kinds := by rw [hjudged.frame]
    have hwheel : (t.pos p).wheel = (s.pos p).wheel := by rw [hjudged.record]
    have hevent : ∀ j ∈ ks, t.eventOf p v j = s.eventOf p v j := fun j hj => by
      have hne : j ≠ k := fun he => hk (he ▸ hj)
      have halarms : (t.pos p).alarms.get j = (s.pos p).alarms.get j := by rw [hjudged.alarms j, if_neg (by simp [hne])]
      unfold State.eventOf
      rw [hkinds, halarms]
    have hnote : ∀ j x, t.alarmNote p j f x = s.alarmNote p j f x := fun j x => by
      unfold State.alarmNote
      rw [hkinds, hwheel]
    have hraise : ∀ j ∈ ks, ((∃ e ∈ kept.filter (fun e => !(decide (s.eventOf p v k = some .cleared) && e.waitingRaise p k)),
        e.waitingRaise p j = true) ↔ ∃ e ∈ kept, e.waitingRaise p j = true) := fun j hj => by
      refine exists_congr fun e => and_congr_left fun hw => ?_
      have hno : e.waitingRaise p k = false := Bool.eq_false_iff.mpr fun hwk => hk (Entry.waitingRaise_inj hwk hw ▸ hj)
      rw [List.mem_filter, hno, Bool.and_false]
      simp
    have htail : t.kindNotes p f v (kept.filter (fun e => !(decide (s.eventOf p v k = some .cleared) && e.waitingRaise p k))) ks =
        s.kindNotes p f v kept ks := List.filterMap_congr fun j hj => by
      rw [hevent j hj]
      unfold State.eventNote
      simp only [hraise j hj, hnote]
    have hwithdrawn : ∀ e, t.withdrawn p v ks e = s.withdrawn p v ks e := fun e => by
      unfold State.withdrawn
      rw [Bool.eq_iff_iff, List.any_eq_true, List.any_eq_true]
      exact exists_congr fun j => and_congr_right fun hj => by rw [hevent j hj]
    have hlen := hholds.length_eq
    have hold := h.length_eq
    have hfilter := List.length_filter_le (fun e => !(decide (s.eventOf p v k = some .cleared) && e.waitingRaise p k)) kept
    rw [List.length_append] at hlen
    obtain ⟨hconds', hholds'⟩ := ih (s := t) (by rw [hjudged.length]; exact hp) hks hholds (fun x hx j hj => by
      rcases List.mem_append.mp hx with hx | hx
      · exact hnew x hx j (by simp [hj])
      · obtain ⟨z, c, temp, hn⟩ := State.eventNote_some (Option.mem_toList.mp hx)
        have hne : k ≠ j := fun he => hk (he ▸ hj)
        rw [hn]
        simp [Notice.raiseFor, hne]) (by rw [htail]; omega)
    refine ⟨hconds'.trans (htconds.trans hconds), ?_⟩
    rw [htail, List.filter_filter, List.append_assoc, ← hnotes] at hholds'
    refine (congrArg (fun es => NoticeStore.Holds es _ _) (List.filter_congr fun e _ => ?_)).mp hholds'
    rw [hwithdrawn]
    unfold State.withdrawn
    rw [List.any_cons, Bool.not_or, Bool.and_comm]

end

end Sys2Proof.Machine

/-! PROOF. A taken REPORT: the conditions it met, the record as written, the ten kinds and the READING notice (R72, R73, R139). -/

namespace Sys2Proof.Machine

/-! ## The conditions an assessment met (R72, R128) -/

section
variable {s : State} {kept : List Entry} {new : List (Notice × Nat)}

/-- With room for its notice a raise adds that notice and its condition, and no other (R128, R129). -/
theorem State.raise_holds (h : s.store.Holds kept new) (c : Condition)
    (hroom : s.store.entries.length + (s.conditionNotice c).length ≤ 8) :
    (s.raise c).store.Holds kept (new ++ s.conditionNotice c) ∧
      ∀ d, condIn d (s.raise c).conds.set = (condIn d s.conds.set || d == c) := by
  cases hc : condIn c s.conds.set with
  | true =>
    have hnone : s.conditionNotice c = [] := by simp [State.conditionNotice, hc]
    rw [State.raise_set hc, hnone, List.append_nil]
    refine ⟨h, fun d => ?_⟩
    by_cases hd : d = c <;> simp [hd, hc]
  | false =>
    cases hm : condIn c s.conds.mask with
    | true =>
      have hnone : s.conditionNotice c = [] := by simp [State.conditionNotice, hm]
      rw [State.raise_masked hc hm, hnone, List.append_nil]
      exact ⟨h, fun d => by simp [condIn_condAdd]⟩
    | false =>
      have hone : s.conditionNotice c = [(.condition c s.seq.frameNumber, 4)] := by simp [State.conditionNotice, hc, hm]
      rw [hone, List.length_singleton] at hroom
      rw [State.raise_unmasked hc hm, State.queueNotice_room (by exact hroom), hone]
      exact ⟨h.take_other rfl hroom 4, fun d => by simp [condIn_condAdd]⟩

/-- The CONDITION notices of the conditions an assessment met (R72, R129). -/
def State.metNotices (s : State) (c : AssessConditions) : List (Notice × Nat) :=
  (if c.invalidCode then s.conditionNotice .invalidCode else []) ++ (if c.clamped then s.conditionNotice .clamped else [])

theorem State.raiseMet_holds (h : s.store.Holds kept new) (c : AssessConditions)
    (hroom : s.store.entries.length + (s.metNotices c).length ≤ 8) :
    (s.raiseMet c).store.Holds kept (new ++ s.metNotices c) ∧
      condIn .noticeLost (s.raiseMet c).conds.set = condIn .noticeLost s.conds.set := by
  have hone : ∀ (u : State) (b : Bool) (d : Condition) (ns : List (Notice × Nat)), d ≠ .noticeLost → u.store.Holds kept ns →
      u.store.entries.length + (if b then u.conditionNotice d else []).length ≤ 8 →
      (if b then u.raise d else u).store.Holds kept (ns ++ if b then u.conditionNotice d else []) ∧
        ∀ x, condIn x (if b then u.raise d else u).conds.set = (condIn x u.conds.set || (b && x == d)) := by
    intro u b d ns _ hu hfits
    cases b with
    | false => exact ⟨by simpa using hu, fun x => by simp⟩
    | true => simpa using State.raise_holds hu d hfits
  unfold State.metNotices at hroom ⊢
  rw [List.length_append] at hroom
  obtain ⟨hfirst, hset⟩ := hone s c.invalidCode .invalidCode new (by decide) h (by omega)
  have hraise : s.raiseMet c = if c.clamped then (if c.invalidCode then s.raise .invalidCode else s).raise .clamped
      else if c.invalidCode then s.raise .invalidCode else s := rfl
  have hnotice : (if c.invalidCode then s.raise .invalidCode else s).conditionNotice .clamped = s.conditionNotice .clamped := by
    have hin := hset .clamped
    unfold State.conditionNotice
    rw [hin]
    cases c.invalidCode with
    | false => simp
    | true => simp
  have hlen := hfirst.length_eq
  have hold := h.length_eq
  rw [List.length_append] at hlen
  rw [hraise, ← List.append_assoc, ← hnotice]
  generalize (if c.invalidCode then s.raise .invalidCode else s) = u at hfirst hset hnotice hlen ⊢
  obtain ⟨hsecond, hset'⟩ := hone u c.clamped .clamped _ (by decide) hfirst (by rw [hnotice]; omega)
  refine ⟨hsecond, ?_⟩
  rw [hset', hset]
  have hinvalid : (Condition.noticeLost == .invalidCode) = false := rfl
  have hclamped : (Condition.noticeLost == .clamped) = false := rfl
  rw [hinvalid, hclamped, Bool.and_false, Bool.and_false, Bool.or_false, Bool.or_false]

/-- Which conditions stand after those met were raised; NOTICE_LOST aside (R72, R128). -/
theorem State.raiseMet_conds (s : State) (c : AssessConditions) : (s.raiseMet c).conds.mask = s.conds.mask ∧
    ∀ d, d ≠ .noticeLost → condIn d (s.raiseMet c).conds.set =
      (condIn d s.conds.set || (d == .invalidCode && c.invalidCode) || (d == .clamped && c.clamped)) := by
  have hone : ∀ (u : State) (b : Bool) (x : Condition), (if b then u.raise x else u).conds.mask = u.conds.mask ∧
      ∀ d, d ≠ .noticeLost → condIn d (if b then u.raise x else u).conds.set = (condIn d u.conds.set || (d == x && b)) := by
    intro u b x
    cases b with
    | false => exact ⟨rfl, fun d _ => by simp⟩
    | true =>
      obtain ⟨hmask, lost, hset⟩ := u.raise_conds x
      refine ⟨hmask, fun d hd => ?_⟩
      have hno : (d == .noticeLost) = false := beq_eq_false_iff_ne.mpr hd
      simp [hset, hno]
  obtain ⟨hmask, hset⟩ := hone s c.invalidCode .invalidCode
  obtain ⟨hmask', hset'⟩ := hone (if c.invalidCode then s.raise .invalidCode else s) c.clamped .clamped
  exact ⟨hmask'.trans hmask, fun d hd => (hset' d hd).trans (by rw [hset d hd])⟩

theorem State.raiseMet_store (s : State) (c : AssessConditions) :
    (s.raiseMet c).store.reply = s.store.reply ∧ (s.raiseMet c).store.readings = s.store.readings := by
  unfold State.raiseMet
  dsimp only
  cases c.invalidCode <;> cases c.clamped <;> simp

end

/-! ## The READING notice (R139) -/

theorem State.queueReading_spec (s : State) (e : QueueEntry) : ∃ st set,
    s.queueReading e = { s with store := st, conds := { s.conds with set := set } } ∧
      st.reply = s.store.reply ∧ st.readings = s.store.readings ∧ ∀ d, d ≠ .noticeLost → condIn d set = condIn d s.conds.set := by
  unfold State.queueReading
  split
  · obtain ⟨set, hset, hq⟩ := s.queueNotice_spec (s.readingNotice e) 7
    refine ⟨_, set, hq, NoticeStore.take_reply _ _ _, NoticeStore.take_readings _ _ _, fun d hd => ?_⟩
    rw [hset, beq_eq_false_iff_ne.mpr hd, Bool.false_and, Bool.or_false]
  · exact ⟨s.store, s.conds.set, rfl, rfl, rfl, fun _ _ => rfl⟩

/-- The results as they are handed on (R72, R73, R77). -/
theorem handedResults_eq (w : InFlight) (c : Capture) (m : Mode) : handedResults w c m =
    { assess w.entry c with
      history := if w.historyMark = true ∨ m = .config then [] else (assess w.entry c).history
      rate := if w.historyMark = true ∨ m = .config then none else (assess w.entry c).rate } := by
  have hiff : (w.historyMark || m == .config) = true ↔ w.historyMark = true ∨ m = .config := by simp
  unfold handedResults Results.dropHistory
  by_cases h : w.historyMark = true ∨ m = .config
  · rw [if_pos (hiff.mpr h), if_pos h, if_pos h]
  · rw [if_neg (fun hb => h (hiff.mp hb)), if_neg h, if_neg h]

/-! ## The record as written (R8, R72) -/

/-- The part after the conditions met were raised and the record written. -/
def State.written (s : State) (e : QueueEntry) (r : Results) : State := (s.raiseMet r.conditions).writeRecord e r

section
variable {s : State} {e : QueueEntry} {r : Results}

theorem State.written_frame : s.written e r =
    { s with positions := (s.written e r).positions, store := (s.raiseMet r.conditions).store
             conds := (s.raiseMet r.conditions).conds } := by
  have hmet := State.raiseMet_eq s r.conditions
  unfold State.written
  generalize s.raiseMet r.conditions = u at hmet
  obtain ⟨st, cd, rfl⟩ : ∃ st cd, u = { s with store := st, conds := cd } := ⟨_, _, hmet⟩
  rfl

theorem State.written_pos (hp : e.position < s.positions.length) (q : Nat) : (s.written e r).pos q =
    if q = e.position then { s.pos e.position with wheel := (s.pos e.position).wheel.taken e r } else s.pos q := by
  have hpos : ∀ q, (s.raiseMet r.conditions).pos q = s.pos q := fun q => State.pos_congr (by rw [State.raiseMet_eq]) q
  have hlen : (s.raiseMet r.conditions).positions.length = s.positions.length := by rw [State.raiseMet_eq]
  rw [State.written, State.writeRecord, State.setPos_pos, hpos, hpos, hlen]
  exact if_congr (and_iff_left hp) rfl rfl

theorem State.written_length : (s.written e r).positions.length = s.positions.length := by
  have hlen : (s.raiseMet r.conditions).positions.length = s.positions.length := by rw [State.raiseMet_eq]
  rw [State.written, State.writeRecord, State.setPos_positions, List.length_set, hlen]

end

/-- A completion in CONFIG judges no kind (R73). -/
theorem State.handOn_config {s : State} (w : InFlight) (c : Capture) (hm : s.modes.mode = .config) :
    s.handOn w c = s.written w.entry (handedResults w c s.modes.mode) := if_pos hm

/-- Any other completion judges the ten kinds and queues the READING notice (R72). -/
theorem State.handOn_judged {s : State} (w : InFlight) (c : Capture) (hm : s.modes.mode ≠ .config) :
    s.handOn w c = (((s.written w.entry (handedResults w c s.modes.mode)).judgeEach w.entry.position w.entry.frame
      (verdict w.entry c (handedResults w c s.modes.mode) (s.pos w.entry.position).state) Kind.all).judgeLamp).queueReading w.entry :=
  if_neg hm

end Sys2Proof.Machine

/-! PROOF. A taken REPORT, whole (R72, R73). -/

namespace Sys2Proof.Machine

/-- What a taken REPORT leaves, its notices apart (R72, R73, R77). -/
structure State.ReportTaken (s : State) (w : InFlight) (c : Capture) (r : Results) (u : State) : Prop where
  frame : u = { s with positions := u.positions, store := u.store, conds := u.conds
                       lamp := if s.modes.mode = .config then s.lamp else u.lampRule }
  others : ∀ q, q ≠ w.entry.position → u.pos q = s.pos q
  record : u.pos w.entry.position = { s.pos w.entry.position with
    wheel := (s.pos w.entry.position).wheel.taken w.entry r, alarms := (u.pos w.entry.position).alarms }
  alarms : ∀ k, (u.pos w.entry.position).alarms.get k =
    if s.modes.mode = .config then (s.pos w.entry.position).alarms.get k
    else SubRecord.judged (s.kinds.get k) k ((s.pos w.entry.position).alarms.get k)
      (verdict w.entry c r (s.pos w.entry.position).state k)
  reply : u.store.reply = s.store.reply
  readings : u.store.readings = s.store.readings
  mask : u.conds.mask = s.conds.mask
  set : ∀ d, d ≠ .noticeLost → condIn d u.conds.set =
    (condIn d s.conds.set || (d == .invalidCode && r.conditions.invalidCode) || (d == .clamped && r.conditions.clamped))

section
variable {s : State} {e : QueueEntry} {r : Results} {v : Kind → Option Verdict}

theorem State.written_store : (s.written e r).store = (s.raiseMet r.conditions).store := by
  rw [State.written_frame]

theorem State.written_conds : (s.written e r).conds = (s.raiseMet r.conditions).conds := by
  rw [State.written_frame]

theorem State.written_kinds : (s.written e r).kinds = s.kinds := by
  rw [State.written_frame]

theorem State.written_self (hp : e.position < s.positions.length) : (s.written e r).pos e.position =
    { s.pos e.position with wheel := (s.pos e.position).wheel.taken e r } := (State.written_pos hp _).trans (if_pos rfl)

theorem State.written_eventOf (hp : e.position < s.positions.length) (k : Kind) : (s.written e r).eventOf e.position v k =
    SubRecord.event (s.kinds.get k) k ((s.pos e.position).alarms.get k) (v k) := by
  rw [State.eventOf, State.written_kinds, State.written_self hp]

theorem State.written_alarmNote (hp : e.position < s.positions.length) (k : Kind) (x : AlarmEvent) :
    (s.written e r).alarmNote e.position k e.frame x =
      alarmOfClass (s.kinds.get k).cls (.alarm e.position k x e.frame r.cold r.temperature) := by
  rw [State.alarmNote, State.written_kinds, State.written_self hp]
  rfl

/-- The record and the sub-records, in CONFIG. -/
theorem State.written_taken {w : InFlight} {c : Capture} (hm : s.modes.mode = .config)
    (hp : w.entry.position < s.positions.length) : s.ReportTaken w c r (s.written w.entry r) := by
  obtain ⟨hmask, hset⟩ := s.raiseMet_conds r.conditions
  obtain ⟨hreply, hreadings⟩ := s.raiseMet_store r.conditions
  refine ⟨?_, fun q hq => (State.written_pos hp q).trans (if_neg hq), ?_, fun k => ?_, ?_, ?_, ?_, ?_⟩
  · rw [if_pos hm, State.written_store, State.written_conds]
    exact State.written_frame
  · rw [State.written_self hp]
  · rw [State.written_self hp, if_pos hm]
  · rw [State.written_store, hreply]
  · rw [State.written_store, hreadings]
  · rw [State.written_conds, hmask]
  · rw [State.written_conds]
    exact hset

theorem Kind.all_nodup : Kind.all.Nodup := by decide

/-- The record and the sub-records, outside CONFIG. -/
theorem State.judged_taken {w : InFlight} {c : Capture} (hm : s.modes.mode ≠ .config)
    (hp : w.entry.position < s.positions.length) : s.ReportTaken w c r
      ((((s.written w.entry r).judgeEach w.entry.position w.entry.frame
        (verdict w.entry c r (s.pos w.entry.position).state) Kind.all).judgeLamp).queueReading w.entry) := by
  obtain ⟨hmask, hset⟩ := s.raiseMet_conds r.conditions
  obtain ⟨hreply, hreadings⟩ := s.raiseMet_store r.conditions
  have hjudged := State.judgeEach_judged (s := s.written w.entry r) (p := w.entry.position) (f := w.entry.frame)
    (v := verdict w.entry c r (s.pos w.entry.position).state) (by rw [State.written_length]; exact hp) Kind.all_nodup
  generalize (s.written w.entry r).judgeEach _ _ _ _ = t at hjudged
  obtain ⟨st, set, hq, hstReply, hstReadings, hstSet⟩ := t.judgeLamp.queueReading_spec w.entry
  have hpos : ∀ q, (t.judgeLamp.queueReading w.entry).pos q = t.pos q := fun q => State.pos_congr (by rw [hq]; rfl) q
  have hrule : (t.judgeLamp.queueReading w.entry).lampRule = t.lampRule :=
    State.lampRule_congr (by rw [hq]; rfl) (by rw [hq]; rfl) (by rw [hq]; rfl) (by rw [hq]; rfl)
  have hstore := congrArg State.store hq
  have hconds := congrArg State.conds hq
  refine ⟨?frame, fun q hq => ?others, ?record, fun k => ?alarms, ?reply, ?readings, ?mask, fun d hd => ?set⟩
  case frame =>
    have hpositions := congrArg State.positions hq
    rw [if_neg hm, hrule, hstore, hconds, hpositions]
    conv_lhs => rw [hq]
    have hwritten := State.written_frame (s := s) (e := w.entry) (r := r)
    have hframe := hjudged.frame
    generalize s.written w.entry r = j at hwritten hframe
    have hlamp : t.judgeLamp.lamp = t.lampRule := rfl
    rw [hlamp]
    generalize t.lampRule = l
    obtain ⟨rs, st', cd, rfl⟩ : ∃ rs st cd, t = { j with positions := rs, store := st, conds := cd } := ⟨_, _, _, hframe⟩
    obtain ⟨rs', st'', cd', rfl⟩ : ∃ rs st cd, j = { s with positions := rs, store := st, conds := cd } := ⟨_, _, _, hwritten⟩
    rfl
  case others => rw [hpos, hjudged.others q hq, State.written_pos hp, if_neg hq]
  case record =>
    rw [hpos]
    conv_lhs => rw [hjudged.record]
    rw [State.written_self hp]
  case alarms =>
    rw [hpos, hjudged.alarms, if_pos k.mem_all, if_neg hm, State.judgedAs, State.written_kinds, State.written_self hp]
  case reply =>
    rw [hstore]
    exact hstReply.trans (hjudged.reply.trans ((congrArg NoticeStore.reply State.written_store).trans hreply))
  case readings =>
    rw [hstore]
    exact hstReadings.trans (hjudged.readings.trans ((congrArg NoticeStore.readings State.written_store).trans hreadings))
  case mask =>
    rw [hconds]
    exact hjudged.mask.trans ((congrArg ConditionSet.mask State.written_conds).trans hmask)
  case set =>
    rw [hconds]
    exact (hstSet d hd).trans ((hjudged.set d hd).trans ((congrArg (fun x : ConditionSet => condIn d x.set) State.written_conds).trans (hset d hd)))

/-! ## The notices of a completion (R72) -/

theorem State.mem_metNotices {c : AssessConditions} {x : Notice × Nat} (h : x ∈ s.metNotices c) : ∃ d f, x.1 = .condition d f := by
  have hone : ∀ d, x ∈ s.conditionNotice d → ∃ d f, x.1 = .condition d f := fun d hx => by
    unfold State.conditionNotice at hx
    split at hx
    · cases hx
    · obtain rfl := List.mem_singleton.mp hx
      exact ⟨_, _, rfl⟩
  rcases List.mem_append.mp h with h | h <;> split at h
  · exact hone _ h
  · cases h
  · exact hone _ h
  · cases h

/-- The READING notice stands behind the others, in place of a waiting one (R139). -/
theorem State.queueReading_holds {t : State} {kept : List Entry} {new : List (Notice × Nat)} (h : t.store.Holds kept new)
    (hnew : ∀ x ∈ new, x.1.isReading = false) (e : QueueEntry)
    (hroom : t.store.entries.length + (if t.store.readings then 1 else 0) ≤ 8) :
    (t.queueReading e).conds = t.conds ∧ (t.queueReading e).store.Holds
      (kept.filter (fun x => !(t.store.readings && (t.readingNotice e).replaces x)))
      (new ++ if t.store.readings then [(t.readingNotice e, 7)] else []) := by
  unfold State.queueReading
  cases hr : t.store.readings with
  | true =>
    rw [hr, if_pos rfl] at hroom
    simp only [if_true, Bool.true_and]
    rw [State.queueNotice_room hroom]
    exact ⟨rfl, h.take hroom hnew 7⟩
  | false =>
    simp only [Bool.false_eq_true, if_false, Bool.false_and, Bool.not_false, List.filter_true, List.append_nil]
    exact ⟨trivial, h⟩

theorem State.kindNotes_not_reading {j : State} {p : Nat} {f : FrameNo} {es : List Entry} {ks : List Kind} {x : Notice × Nat}
    (h : x ∈ j.kindNotes p f v es ks) : x.1.isReading = false := by
  obtain ⟨k, -, hk⟩ := List.mem_filterMap.mp h
  obtain ⟨z, c, t, hn⟩ := State.eventNote_some hk
  rw [hn]
  rfl

/-- The READING notice of a taken REPORT (R139). -/
def reading (e : QueueEntry) (r : Results) : Notice :=
  .reading e.position r.hot r.cold r.temperature e.telegram.battery r.rate e.frame

/-- A completion outside CONFIG, in a store with room. -/
theorem State.judged_shown (hp : e.position < s.positions.length) (hserved : s.store.served)
    (hroom : s.store.entries.length + (s.metNotices r.conditions).length +
      ((s.written e r).kindNotes e.position e.frame v s.store.entries Kind.all).length + (if s.store.readings then 1 else 0) ≤ 8) :
    condIn .noticeLost ((((s.written e r).judgeEach e.position e.frame v Kind.all).judgeLamp).queueReading e).conds.set =
      condIn .noticeLost s.conds.set ∧
    ((((s.written e r).judgeEach e.position e.frame v Kind.all).judgeLamp).queueReading e).store.Holds
      ((s.store.entries.filter (fun x => !(s.written e r).withdrawn e.position v Kind.all x)).filter
        (fun x => !(s.store.readings && (reading e r).replaces x)))
      (s.metNotices r.conditions ++ (s.written e r).kindNotes e.position e.frame v s.store.entries Kind.all ++
        if s.store.readings then [(reading e r, 7)] else []) := by
  obtain ⟨hmet, hlost⟩ := State.raiseMet_holds hserved.holds r.conditions (by omega)
  rw [List.nil_append] at hmet
  have hwritten : (s.written e r).store.Holds s.store.entries (s.metNotices r.conditions) := State.written_store.symm ▸ hmet
  have hlen := hwritten.length_eq
  have hplen : e.position < (s.written e r).positions.length := by rw [State.written_length]; exact hp
  obtain ⟨hconds, hholds⟩ := State.judgeEach_holds (f := e.frame) (v := v) hplen Kind.all_nodup hwritten (fun x hx k _ => by
    obtain ⟨d, f, hn⟩ := State.mem_metNotices hx
    rw [hn]
    rfl) (by omega)
  have hjudged := State.judgeEach_judged (f := e.frame) (v := v) hplen Kind.all_nodup
  have hwheel : (((s.written e r).judgeEach e.position e.frame v Kind.all).pos e.position).wheel =
      (s.pos e.position).wheel.taken e r := by
    rw [hjudged.record, State.written_self hp]
  have hreadings : ((s.written e r).judgeEach e.position e.frame v Kind.all).store.readings = s.store.readings :=
    hjudged.readings.trans ((congrArg NoticeStore.readings State.written_store).trans (s.raiseMet_store r.conditions).2)
  generalize (s.written e r).judgeEach e.position e.frame v Kind.all = t at hconds hholds hwheel hreadings
  have hkept := List.length_filter_le (fun x => !(s.written e r).withdrawn e.position v Kind.all x) s.store.entries
  have htlen := hholds.length_eq
  rw [List.length_append] at htlen
  have hnotice : t.judgeLamp.readingNotice e = reading e r := by
    have hjudgedWheel : (t.judgeLamp.pos e.position).wheel = (s.pos e.position).wheel.taken e r := hwheel
    rw [State.readingNotice, hjudgedWheel]
    rfl
  have hreadingsLamp : t.judgeLamp.store.readings = s.store.readings := hreadings
  obtain ⟨hqc, hqh⟩ := State.queueReading_holds (t := t.judgeLamp) (by exact hholds) (fun x hx => by
    rcases List.mem_append.mp hx with hx | hx
    · obtain ⟨d, f, hn⟩ := State.mem_metNotices hx
      rw [hn]
      rfl
    · exact State.kindNotes_not_reading hx) e (by
      rw [hreadingsLamp]
      change t.store.entries.length + _ ≤ 8
      omega)
  rw [hreadingsLamp, hnotice] at hqh
  refine ⟨?_, hqh⟩
  rw [hqc]
  exact (congrArg (fun x : ConditionSet => condIn .noticeLost x.set) (hconds.trans State.written_conds)).trans hlost

end

end Sys2Proof.Machine

/-! PROOF. A taken REPORT meets its obligation (R71 to R73). -/

namespace Sys2Proof.Machine

section
variable {s : State} {w : InFlight} {c : Capture} {r : Results}

theorem State.completeReport_taken (hvoid : w.voidMark = false) (hholds : s.entryHolds w.entry = true) (c : Capture) :
    s.completeReport w c = s.handOn w c := if_neg (by simp [hvoid, hholds])

theorem State.handOn_taken (hp : w.entry.position < s.positions.length) (hr : handedResults w c s.modes.mode = r) :
    s.ReportTaken w c r (s.handOn w c) := by
  by_cases hm : s.modes.mode = .config
  · rw [State.handOn_config w c hm, hr]
    exact State.written_taken hm hp
  · rw [State.handOn_judged w c hm, hr]
    exact State.judged_taken hm hp

end

/-- Settles O44: what is handed on of a REPORT whose binding held, in CONFIG and outside it. -/
theorem takenReportsWriteAndJudge : Obligations.TakenReportsWriteAndJudge := by
  unfold Obligations.TakenReportsWriteAndJudge
  intro s w c hw hc hvoid hst hid p old marked r
  have hholds : s.entryHolds w.entry = true := (s.entryHolds_iff _).mpr ⟨hst, hid⟩
  have hp : w.entry.position < s.positions.length := State.lt_of_state_ne_absent fun h => by
    have hbound := State.entryHolds_bound hholds
    rw [h] at hbound
    cases hbound
  have hr : handedResults w c s.modes.mode = r := handedResults_eq w c _
  have htaken := State.handOn_taken hp hr
  have hexec := exec_reportCompletion hw hc
  rw [State.completeReport_taken hvoid hholds] at hexec
  have hrule : State.lampRule { s.handOn w c with engine := .idle } = (s.handOn w c).lampRule :=
    State.lampRule_congr rfl rfl rfl rfl
  refine ⟨{ s.handOn w c with engine := .idle }, hexec, ?frame, htaken.reply, htaken.readings, fun hq => ?queue,
    htaken.others, htaken.record, htaken.alarms, htaken.set, htaken.mask, ?shown⟩
  case frame =>
    rw [hrule]
    have hframe := htaken.frame
    generalize s.handOn w c = u at hframe
    generalize u.lampRule = l at hframe
    obtain ⟨rs, st, cd, rfl⟩ : ∃ rs st cd, u = { s with
        positions := rs, store := st, conds := cd, lamp := if s.modes.mode = .config then s.lamp else l } := ⟨_, _, _, hframe⟩
    rfl
  case queue =>
    have hempty : (s.handOn w c).queue = [] := by rw [htaken.frame]; exact hq
    exact hexec.trans (exec_assessmentStart_empty rfl hempty)
  case shown =>
    intro judges event raise replaced left met alarms told hserved hroom
    have hmet : met = s.metNotices r.conditions := rfl
    have hraise : ∀ k x, raise k x = x.waitingRaise p k := by
      rintro k ⟨n, number, state⟩
      cases n <;> rfl
    have hreplaced : ∀ x, replaced x = (judges && s.store.readings && (reading w.entry r).replaces x) := by
      rintro ⟨n, number, state⟩
      have hreading : ∀ q, (Entry.waits ⟨n, number, state⟩ && (q == p && judges && s.store.readings)) =
          (judges && s.store.readings && (Entry.waits ⟨n, number, state⟩ && p == q)) := fun q => by
        rw [Bool.beq_comm (a := q)]
        cases Entry.waits ⟨n, number, state⟩ <;> cases judges <;> cases s.store.readings <;> simp
      have hother : (Entry.waits ⟨n, number, state⟩ && false) = (judges && s.store.readings && false) := by
        rw [Bool.and_false, Bool.and_false]
      cases n with
      | reading q => exact hreading q
      | _ => exact hother
    by_cases hm : s.modes.mode = .config
    · have hjudges : judges = false := decide_eq_false (not_not.mpr hm)
      have hevent : ∀ k, event k = none := fun k => if_neg (by rw [hjudges]; decide)
      have hleft : left = s.store.entries := List.filter_eq_self.mpr fun x _ => by
        rw [hreplaced, hjudges, Bool.false_and, Bool.false_and, Bool.false_or]
        simp [hevent]
      have halarms : alarms = [] := List.filterMap_eq_nil_iff.mpr fun k _ => by rw [hevent]
      have htold : told = [] := if_neg (by rw [hjudges, Bool.false_and]; decide)
      rw [hmet] at hroom ⊢
      obtain ⟨hshown, hlost⟩ := State.raiseMet_holds hserved.holds r.conditions (by omega)
      have hhanded : s.handOn w c = s.written w.entry r := by rw [State.handOn_config w c hm, hr]
      rw [hleft, halarms, htold, List.append_nil, List.append_nil]
      refine ⟨?_, ?_⟩
      · change condIn .noticeLost (s.handOn w c).conds.set = _
        rw [hhanded, State.written_conds, hlost]
      · change (s.handOn w c).store.shown = _
        rw [hhanded, State.written_store, hshown.shown_eq]
        rfl
    · have hjudges : judges = true := decide_eq_true hm
      have hevent : ∀ k, event k = (s.written w.entry r).eventOf w.entry.position
          (verdict w.entry c r (s.pos w.entry.position).state) k := fun k =>
        (if_pos hjudges).trans (State.written_eventOf hp k).symm
      have halarms : alarms = (s.written w.entry r).kindNotes w.entry.position w.entry.frame
          (verdict w.entry c r (s.pos w.entry.position).state) s.store.entries Kind.all :=
        List.filterMap_congr fun k _ => by
          rw [hevent k]
          cases (s.written w.entry r).eventOf w.entry.position (verdict w.entry c r (s.pos w.entry.position).state) k with
          | none => rfl
          | some x =>
            simp only [hraise]
            rw [State.eventNote_of, State.written_alarmNote hp] <;> rfl
      have htold : told = if s.store.readings then [(reading w.entry r, 7)] else [] :=
        if_congr (by rw [hjudges, Bool.true_and]) rfl rfl
      have hleft : left = (s.store.entries.filter (fun x => !(s.written w.entry r).withdrawn w.entry.position
            (verdict w.entry c r (s.pos w.entry.position).state) Kind.all x)).filter
          (fun x => !(s.store.readings && (reading w.entry r).replaces x)) := by
        rw [List.filter_filter]
        refine List.filter_congr fun x _ => ?_
        have hany : Kind.all.any (fun k => decide (event k = some .cleared) && raise k x) =
            (s.written w.entry r).withdrawn w.entry.position (verdict w.entry c r (s.pos w.entry.position).state) Kind.all x := by
          unfold State.withdrawn
          simp only [hevent, hraise]
          rfl
        rw [hany, hreplaced, hjudges, Bool.true_and, Bool.not_or]
      have htoldLength : told.length = if s.store.readings then 1 else 0 := by
        rw [htold]
        cases s.store.readings <;> rfl
      rw [htoldLength, hmet, halarms] at hroom
      obtain ⟨hlost, hholds⟩ := State.judged_shown hp hserved hroom
      have hhanded := State.handOn_judged w c hm
      rw [hr] at hhanded
      rw [hleft, hmet, halarms, htold]
      refine ⟨?_, ?_⟩
      · change condIn .noticeLost (s.handOn w c).conds.set = _
        rw [hhanded]
        exact hlost
      · change (s.handOn w c).store.shown = _
        rw [hhanded, hholds.shown_eq]
        simp only [List.append_assoc]

end Sys2Proof.Machine
